-- ==== Sys2Proof/Word.lean ====
section
/-! DEFINITION. The word types of M17CORE (spec/00_scope.md rules R12, R13, R16; spec/20_memory.md rules R60, R62). -/

namespace Sys2Proof

/-- One word of the command stream or of the response stream (rule R60). -/
abbrev Word32 := BitVec 32

/-- A payload byte; an LLR travels as one byte, two's complement (rule R62). -/
abbrev Byte := BitVec 8

/-- A log-likelihood ratio as an integer: positive means bit 1, negative bit 0, zero an erasure (rule R16).
The range `-LLR_MAX .. +LLR_MAX` is checked where an LLR enters the machine. -/
abbrev Llr := Int

/-- A real of the sample-domain units: the exact-rational choice of the record `FP` of rule R12. -/
abbrev RealVal := Rat

end Sys2Proof
end

