-- ==== Sys2Proof/Config.lean ====
section
/-! DEFINITION. The configuration of M17CORE: the constants the spec fixes (spec/00_scope.md rules R8, R9, R10), the
enumerations (spec/10_state.md rule R27), the record of the OPEN parameters (rule R11), and the free values, which have
no body. -/

namespace Sys2Proof

namespace Config

/-! ### Constants fixed by the source, rule R8 -/

/-- CRC-16 polynomial. -/
def CRC_POLY : BitVec 16 := 0x5935
/-- The CRC of the empty sequence (rules R8, R116). -/
def CRC_INIT : BitVec 16 := 0xFFFF
/-- The register content that sixteen zero shifts carry to `CRC_INIT` (rule R111). -/
def CRC_SEED : BitVec 16 := 0x36E6
/-- Golay generator. -/
def GOLAY_POLY : BitVec 23 := 0xC75
/-- First convolutional generator, 031 octal. -/
def CNV_G1 : BitVec 5 := 0b11001
/-- Second convolutional generator, 027 octal. -/
def CNV_G2 : BitVec 5 := 0b10111
/-- Memory bits of the encoder. -/
def CNV_MEM : Nat := 4
/-- Interleaver constants. -/
def ILV_F1 : Nat := 45
def ILV_F2 : Nat := 92
def ILV_K : Nat := 368
/-- LLR values per frame buffer. -/
def FRAME_LLRS : Nat := 368
/-- Samples per symbol. -/
def SPS : Nat := 10
/-- Symbols per sync word. -/
def SYNC_SYMS : Nat := 8
/-- Length of the correlator's ring. -/
def COR_LEN : Nat := 80
/-- Miss limit of the re-sync states. -/
def MAX_MISSING_SYNC : Nat := 8

/-! ### Parameters the spec instantiates, rule R9 -/

/-- Full scale of a 4-bit LLR. -/
def LLR_MAX : Nat := 7
/-- Depth of the Viterbi history in trellis steps. -/
def VIT_HIST : Nat := 244
/-- Path metric of an unreachable state. -/
def METRIC_INF : Nat := 2 ^ 30 - 1
/-- Longest block of coded bits (rule R95). -/
def MAX_CODED : Nat := 488
/-- Longest block of data bits (rule R95). -/
def MAX_DATA : Nat := 240

/-! ### Thresholds of the state machines, rule R10 -/

def PREAMBLE_SEARCH : Nat := 1920
def LSF_MISS_LIMIT : Nat := 192
def SYNC_DWELL_MIN : Nat := 70
def SYNC_DWELL_MAX : Nat := 87
def COST_TH1 : Nat := 90
def COST_TH2 : Nat := 100
def COST_TH3 : Nat := 110
def STRIKE_LIMIT : Nat := 75
def EOS_COST_MAX : Nat := 60
def TRIGGER_FRACTION : RealVal := 1 / 10
def DCD_EMA_OLD : RealVal := 4 / 5
def DCD_EMA_NEW : RealVal := 1 / 5
def CLK_MAX_DRIFT : RealVal := 1 / 2000

/-! ### Free values (no body: nothing can be proved of one value) -/

/-- Which of two equally near binary32 values a real is returned as (rule R63 says "the binary32 nearest to it" and
no more): `true` takes the one of larger magnitude.  DESIGN CHOICE, log entry 3; safe. -/
opaque f32TieUp : RealVal → Bool

/-- The sign bit of the zero that a real other than 0 rounds to (rule R63 leaves it open).  DESIGN CHOICE, log
entry 3; safe. -/
opaque f32ZeroSign : RealVal → Bool

/-- The word returned for a real beyond the range of binary32, for which rule R63 states no result.  DESIGN CHOICE,
log entry 3; safe. -/
opaque f32OutOfRange : RealVal → Word32

/-- `W(f)` of rule R206 for a tone other than the two M17CORE takes: cosine and minus sine of `2*pi*f/48000` are in general
irrational, and no number is chosen for them.  DESIGN CHOICE, log entry 4; safe. -/
opaque sdftWElse : RealVal → RealVal × RealVal

end Config

/-! ### Enumerations, rule R27 -/

inductive DemodState where
  | unlocked | lsfSync | streamSync | packetSync | bertSync | frame
deriving DecidableEq, Repr

inductive FdState where
  | lsf | stream | basicPacket | fullPacket | bert
deriving DecidableEq, Repr

inductive SyncType where
  | lsf | stream | packet | bert
deriving DecidableEq, Repr

inductive FrameType where
  | lsf | lich | stream | basicPacket | fullPacket | bert
deriving DecidableEq, Repr

/-- The decode results, numbers 0 to 4. -/
inductive FdResult where
  | ok | fail | incomplete | eos | packetIncomplete
deriving DecidableEq, Repr

/-- The three sync detectors. -/
inductive SynSel where
  | preamble | lsf | packet
deriving DecidableEq, Repr

/-- The three puncture masks; 0 is illegal as an operand. -/
inductive MaskSel where
  | p1 | p2 | p3
deriving DecidableEq, Repr

/-- The three fault causes (rule R321). -/
inductive FaultCause where
  | illegalOp | badArg | badOperand
deriving DecidableEq, Repr

/-- The registers of the deviation unit (rule R40).  `acc` is the estimator's accumulator, empty at reset. -/
structure Dev where
  offset    : RealVal
  idev      : RealVal
  deviation : RealVal
  error     : RealVal
  acc       : List RealVal
deriving DecidableEq, Repr

/-- The parameter record `DEV_EST` of rule R228.  Its three members are `dev_reset`, which is fixed but for the empty state
of the accumulator (`Sys2Proof.Machine.devReset`), `dev_sample` and `dev_update`. -/
structure DevEst where
  /-- The empty state of `DEV.acc`. -/
  empty : List RealVal
  /-- `dev_sample(x)`: take a filtered sample at the sampling point. -/
  sample : Dev → RealVal → Dev
  /-- `dev_update()`: recompute the four registers from the accumulator. -/
  update : Dev → Dev

/-- The OPEN parameters of rule R11, as one record: every unit function, every operation, the step and the reset state take
it as an argument (`execFor`, `stepFor`, `State.resetFor`), so a law can be stated for all of them;
`Sys2Proof.Machine.m17core` (Machine/Rom.lean) holds the values M17CORE takes. -/
structure Params where
  /-- `ROM.SYNC[w][0..7]`, element 0 the first symbol in time (rule R197). -/
  sync : SynSel → List Int
  /-- Positive trigger scale (rule R199). -/
  mag1 : SynSel → RealVal
  /-- Negative trigger scale, where the detector has one (rule R199). -/
  mag2 : SynSel → Option RealVal
  /-- `ROM.P1`, `ROM.P2`, `ROM.P3` (rule R140). -/
  mask : MaskSel → List Bool
  /-- `ROM.RAND_SEQ`, 46 bytes (rule R180). -/
  randSeq : List Byte
  /-- `MF_TAPS` (rule R273). -/
  mfTaps : List RealVal
  /-- Initial state of `COR_LIMIT_FILTER` (rule R193). -/
  limitState : RealVal
  /-- `COR_LIMIT_INIT` (rule R193). -/
  limitInit : RealVal
  /-- Step of `COR_LIMIT_FILTER`: (state, magnitude) to (state, output). -/
  limitStep : RealVal → RealVal → RealVal × RealVal
  /-- `DCD_F_IN` and `DCD_F_OUT`, the in-band and the out-of-band tone in Hz (rule R207). -/
  dcdFIn : RealVal
  dcdFOut : RealVal
  /-- `W(f)` of rule R206, as (real part, imaginary part). -/
  dcdW : RealVal → RealVal × RealVal
  /-- `DCD_N`, the window of the sliding DFT (rule R207). -/
  dcdN : Nat
  /-- `DCD_HIGH` and `DCD_LOW` (rule R207). -/
  dcdHigh : RealVal
  dcdLow : RealVal
  /-- `DCD_POLL` in samples (rule R276). -/
  dcdPoll : Nat
  /-- `DIAG_CADENCE` in samples (rule R300). -/
  diagCadence : Nat
  /-- `llr_map` (rule R145). -/
  llrMap : RealVal → Llr × Llr
  /-- `lsf_class` on the 30 bytes of an LSF (rule R246). -/
  lsfClass : List Byte → FdState
  /-- `DEM_GATE_ON_DCD` (rule R275). -/
  gateOnDcd : Bool
  /-- `DEV_EST` (rule R228). -/
  devEst : DevEst

end Sys2Proof
end

