-- ==== Sys2Proof/Machine/Bits.lean ====
section
/-! DEFINITION. Bits, bytes and words: the notation of spec/00_scope.md rules R13 to R16 and the packing of
spec/20_memory.md rules R61 to R63.  Everything is most significant first. -/

namespace Sys2Proof.Machine

open Sys2Proof

/-- `popcount(v)` of rule R15. -/
def popcount {n : Nat} (v : BitVec n) : Nat :=
  ((List.range n).filter fun i => v.getLsbD i).length

/-- `parity(v)` of rule R15. -/
def parity {n : Nat} (v : BitVec n) : Bool :=
  popcount v % 2 == 1

/-- A list cut into pieces of `k` elements, the last one possibly shorter; `fuel` is at least the list's length. -/
def chunksAux {α : Type} (k : Nat) : Nat → List α → List (List α)
  | 0, _ => []
  | _ + 1, [] => []
  | fuel + 1, x :: xs => (x :: xs).take k :: chunksAux k fuel ((x :: xs).drop k)

def chunks {α : Type} (k : Nat) (xs : List α) : List (List α) :=
  chunksAux k xs.length xs

/-- The number whose binary digits, most significant first, are `bs`. -/
def natOfBits (bs : List Bool) : Nat :=
  bs.foldl (fun a b => 2 * a + b.toNat) 0

/-- The bits of `v`, most significant first. -/
def bitsOf {n : Nat} (v : BitVec n) : List Bool :=
  (List.range n).map fun i => v.getLsbD (n - 1 - i)

/-- `xs` filled up on the right with `d` to `n` elements. -/
def padTo {α : Type} (n : Nat) (d : α) (xs : List α) : List α :=
  xs ++ List.replicate (n - xs.length) d

/-- Up to eight bits as a byte, missing low positions 0. -/
def byteOfBits (bs : List Bool) : Byte :=
  BitVec.ofNat 8 (natOfBits (padTo 8 false bs))

/-- `bits(B)` of rule R14. -/
def bitsOfBytes (bytes : List Byte) : List Bool :=
  bytes.flatMap bitsOf

/-- `bytes(b)` of rule R14: the last byte is padded with zero bits in its low positions. -/
def bytesOfBits (bs : List Bool) : List Byte :=
  (chunks 8 bs).map byteOfBits

/-- Up to four bytes as a stream word, missing low positions 0 (rule R63). -/
def wordOfBytes (bytes : List Byte) : Word32 :=
  BitVec.ofNat 32 ((padTo 4 0 bytes).foldl (fun a b => 256 * a + b.toNat) 0)

/-- The four bytes of a stream word, bits 31 to 24 first (rule R62). -/
def bytesOfWord (w : Word32) : List Byte :=
  [w.extractLsb' 24 8, w.extractLsb' 16 8, w.extractLsb' 8 8, w.extractLsb' 0 8]

/-- The kind `byte` of rule R63: four elements a word, padding 0. -/
def packBytes (bytes : List Byte) : List Word32 :=
  (chunks 4 bytes).map wordOfBytes

/-- The kind `bit` of rule R63: thirty-two elements a word, padding 0. -/
def packBits (bs : List Bool) : List Word32 :=
  packBytes (bytesOfBits bs)

/-- `OperandRead(byte, n)` and, before the range check, `OperandRead(llr, n)` (rule R62): padding is ignored. -/
def readBytes (n : Nat) (ws : List Word32) : List Byte :=
  (ws.flatMap bytesOfWord).take n

/-- `OperandRead(bit, n)` (rule R62): padding is ignored. -/
def readBits (n : Nat) (ws : List Word32) : List Bool :=
  (ws.flatMap bitsOf).take n

/-- `OperandRead(f32, 1)`: the one payload word (rule R62). -/
def readWord (ws : List Word32) : Word32 :=
  ws.headD 0

/-- `hard(l)` of rule R16. -/
def hard (l : Llr) : Bool :=
  decide (0 < l)

/-- `soft(b)` of rule R16. -/
def soft (b : Bool) : Llr :=
  if b then (Config.LLR_MAX : Int) else -(Config.LLR_MAX : Int)

/-- `ceil(n/k)`, the number of payload words of rule R62. -/
def ceilDiv (n k : Nat) : Nat :=
  (n + k - 1) / k

end Sys2Proof.Machine
end

