-- ==== Sys2Proof/Syntax.lean ====
section
/-! DEFINITION. The operations of M17CORE, one constructor per row of spec/opcode_table.json (spec/30_encoding.md rule R90).
A constructor carries the fields of `arg` (rules R83, R84) and the payload elements (rules R62, R82); a payload length that
`arg` gives is the length of the list.  LLR payload elements and the fields of FRM_PUSH are bytes here: their range is the
meaning's own check (rule R325). -/

namespace Sys2Proof

/-- The operand of INTERLEAVE and DEINTERLEAVE: `kind` 0 is bits, 1 is LLRs (rule R177). -/
inductive FrameOperand where
  | bits (x : List Bool)
  | llrs (x : List Byte)
deriving DecidableEq, Repr

inductive Instr where
  | nop
  | reset
  | status
  | setCfg (polarityNeg diagEnable : Bool)
  | crcReset
  | crcUpdate (byte : Byte)
  | crcUpdaten (bytes : List Byte)
  | crcFinal
  | crcBytes
  | golayEnc (d : BitVec 12)
  | golayDec (w : BitVec 24)
  | convEnc (x : List Bool)
  | puncture (mask : MaskSel) (nOut : BitVec 10) (x : List Bool)
  | depuncture (mask : MaskSel) (nOut : BitVec 10) (y : List Byte)
  | llrMap (x : Word32)
  | vitDecode (nOut : BitVec 10) (l : List Byte)
  | interleave (x : FrameOperand)
  | deinterleave (y : FrameOperand)
  | randomize (x : List Bool)
  | derandomize (l : List Byte)
  | corSample (x : Word32)
  | corCorrelate (sel : SynSel)
  | syncTriggered (sel : SynSel)
  | syncStep (sel : SynSel)
  | syncUpdated (sel : SynSel)
  | dcdSample (x : Word32)
  | dcdUpdate
  | clkSample (x : Word32)
  | clkUpdate
  | clkReset
  | frmPush (a b : Byte)
  | frmReset
  | fdDecode (accept : Bool) (sync : SyncType) (f : List Byte)
  | fdReset
  | demSample (accept : Bool) (x : Word32)
  | encLsf (bytes : List Byte)
  | encLich (index : BitVec 3) (bytes : List Byte)
  | encStream (bytes : List Byte)
  | encPacket (bytes : List Byte)
  | encBert (bytes : List Byte)
deriving DecidableEq, Repr

end Sys2Proof
end

