-- ==== Sys2Proof/WellFormed.lean ====
section
/-! DEFINITION. The legal field ranges of spec/30_encoding.md rule R95 and the payload counts of rule R82, as a check on the
syntax.  Selectors, masks and sync types are enumerations, so their illegal codes cannot be written. -/

namespace Sys2Proof

/-- The number of elements of an INTERLEAVE or DEINTERLEAVE operand. -/
def FrameOperand.length : FrameOperand → Nat
  | .bits x => x.length
  | .llrs x => x.length

/-- The ranges of rule R95 for the counts of PUNCTURE and DEPUNCTURE. -/
def maskCountsOk (nIn nOut : Nat) : Bool :=
  nIn ≤ Config.MAX_CODED && nOut ≤ Config.MAX_CODED

/-- The ranges of rule R95 for VIT_DECODE. -/
def vitCountsOk (nIn nOut : Nat) : Bool :=
  nIn ≠ 0 && nIn % 2 == 0 && nIn ≤ Config.MAX_CODED && nOut ≤ nIn / 2

/-- An instruction that rule R95 allows and whose payload has the number of elements of rule R82. -/
def Instr.wellFormed : Instr → Bool
  | .nop => true
  | .reset => true
  | .status => true
  | .setCfg _ _ => true
  | .crcReset => true
  | .crcUpdate _ => true
  | .crcUpdaten bytes => 1 ≤ bytes.length && bytes.length ≤ 65535
  | .crcFinal => true
  | .crcBytes => true
  | .golayEnc _ => true
  | .golayDec _ => true
  | .convEnc x => x.length ≤ Config.MAX_DATA
  | .puncture _ nOut x => maskCountsOk x.length nOut.toNat
  | .depuncture _ nOut y => maskCountsOk y.length nOut.toNat
  | .llrMap _ => true
  | .vitDecode nOut l => vitCountsOk l.length nOut.toNat
  | .interleave x => x.length == Config.FRAME_LLRS
  | .deinterleave y => y.length == Config.FRAME_LLRS
  | .randomize x => x.length == Config.FRAME_LLRS
  | .derandomize l => l.length == Config.FRAME_LLRS
  | .corSample _ => true
  | .corCorrelate _ => true
  | .syncTriggered _ => true
  | .syncStep _ => true
  | .syncUpdated _ => true
  | .dcdSample _ => true
  | .dcdUpdate => true
  | .clkSample _ => true
  | .clkUpdate => true
  | .clkReset => true
  | .frmPush _ _ => true
  | .frmReset => true
  | .fdDecode _ _ f => f.length == Config.FRAME_LLRS
  | .fdReset => true
  | .demSample _ _ => true
  | .encLsf bytes => bytes.length == 30
  | .encLich index bytes => index.toNat ≤ 5 && bytes.length == 5
  | .encStream bytes => bytes.length == 30
  | .encPacket bytes => bytes.length == 26
  | .encBert bytes => bytes.length == 25

end Sys2Proof
end

