-- ==== Sys2Proof/Decode.lean ====
section
/-! DEFINITION. Decoding of the command stream and its inverse, the encoder: spec/30_encoding.md rules R80 to R84, R90, R91,
R95 and spec/20_memory.md rule R62.  The argument checks are made on the command word alone (rule R91 (a), (b), (c)),
before any payload word is looked at. -/

namespace Sys2Proof

open Sys2Proof.Machine

/-! ### Numbers of the enumerations that are operands (rule R27) -/

def synSelOf (v : BitVec 2) : Option SynSel :=
  match v.toNat with
  | 0 => some .preamble
  | 1 => some .lsf
  | 2 => some .packet
  | _ => none

def SynSel.code : SynSel → BitVec 2
  | .preamble => 0
  | .lsf => 1
  | .packet => 2

def maskSelOf (v : BitVec 2) : Option MaskSel :=
  match v.toNat with
  | 1 => some .p1
  | 2 => some .p2
  | 3 => some .p3
  | _ => none

def MaskSel.code : MaskSel → BitVec 2
  | .p1 => 1
  | .p2 => 2
  | .p3 => 3

def syncTypeOf (v : BitVec 2) : SyncType :=
  match v.toNat with
  | 0 => .lsf
  | 1 => .stream
  | 2 => .packet
  | _ => .bert

def SyncType.code : SyncType → BitVec 2
  | .lsf => 0
  | .stream => 1
  | .packet => 2
  | .bert => 3

/-! ### The command word -/

/-- What the command word alone says: a fault of rule R91 (a) to (c), or the payload length `plen` of rule R82 and the
instruction that payload words of that number make. -/
inductive CommandForm where
  | reject (c : FaultCause)
  | accept (plen : Nat) (build : List Word32 → Instr)

/-- `op`, bits 31 to 24 (rule R81). -/
def opOf (w : Word32) : BitVec 8 := w.extractLsb' 24 8

/-- `arg`, bits 23 to 0 (rule R81). -/
def argOf (w : Word32) : BitVec 24 := w.extractLsb' 0 24

/-- Rule R91 (b): a 1 in a reserved bit of `arg` is BAD_ARG, before any field is looked at. -/
def reserved (bits arg : BitVec 24) (k : CommandForm) : CommandForm :=
  if arg &&& bits = 0 then k else .reject .badArg

/-- Rule R91 (c): a field outside its legal range is BAD_ARG. -/
def legal (ok : Bool) (k : CommandForm) : CommandForm :=
  if ok then k else .reject .badArg

/-- Format Z without payload: every bit of `arg` is reserved. -/
def plain (arg : BitVec 24) (i : Instr) : CommandForm :=
  reserved 0xFFFFFF arg (.accept 0 fun _ => i)

/-- Format Z with a payload of `n` words. -/
def payload (arg : BitVec 24) (n : Nat) (build : List Word32 → Instr) : CommandForm :=
  reserved 0xFFFFFF arg (.accept n build)

/-- Format SEL: 3 is illegal (rule R95). -/
def selector (arg : BitVec 24) (build : SynSel → Instr) : CommandForm :=
  reserved 0xFFFFFC arg <|
    match synSelOf (arg.extractLsb' 0 2) with
    | some w => .accept 0 fun _ => build w
    | none => .reject .badArg

/-- Format KIND: 368 bits in 12 words, or 368 LLRs in 92 words (rule R82). -/
def frameKind (arg : BitVec 24) (build : FrameOperand → Instr) : CommandForm :=
  reserved 0xFFFFFE arg <|
    if arg.getLsbD 0 then .accept 92 fun ws => build (.llrs (readBytes 368 ws))
    else .accept 12 fun ws => build (.bits (readBits 368 ws))

/-- Format PUN: mask 21:20, n_in 19:10, n_out 9:0; the payload length depends on the element kind. -/
def puncturing (arg : BitVec 24) (perWord : Nat) (build : MaskSel → BitVec 10 → Nat → List Word32 → Instr) :
    CommandForm :=
  reserved 0xC00000 arg <|
    match maskSelOf (arg.extractLsb' 20 2) with
    | none => .reject .badArg
    | some m =>
      let nIn := (arg.extractLsb' 10 10).toNat
      let nOut := arg.extractLsb' 0 10
      legal (maskCountsOk nIn nOut.toNat) (.accept (ceilDiv nIn perWord) (build m nOut nIn))

/-- The operation map of rule R90 with the argument formats of rule R83 and the ranges of rule R95. -/
def decodeCommand (w : Word32) : CommandForm :=
  let arg := argOf w
  match (opOf w).toNat with
  | 0x00 => plain arg .nop
  | 0x01 => plain arg .reset
  | 0x02 => plain arg .status
  | 0x03 => reserved 0xFFFFFC arg (.accept 0 fun _ => .setCfg (arg.getLsbD 1) (arg.getLsbD 0))
  | 0x10 => plain arg .crcReset
  | 0x11 => reserved 0xFFFF00 arg (.accept 0 fun _ => .crcUpdate (arg.extractLsb' 0 8))
  | 0x12 =>
    let n := (arg.extractLsb' 0 16).toNat
    reserved 0xFF0000 arg (legal (n ≠ 0) (.accept (ceilDiv n 4) fun ws => .crcUpdaten (readBytes n ws)))
  | 0x13 => plain arg .crcFinal
  | 0x14 => plain arg .crcBytes
  | 0x20 => reserved 0xFFF000 arg (.accept 0 fun _ => .golayEnc (arg.extractLsb' 0 12))
  | 0x21 => .accept 0 fun _ => .golayDec arg
  | 0x30 =>
    let n := (arg.extractLsb' 0 9).toNat
    reserved 0xFFFE00 arg
      (legal (n ≤ Config.MAX_DATA) (.accept (ceilDiv n 32) fun ws => .convEnc (readBits n ws)))
  | 0x31 => puncturing arg 32 fun m nOut nIn ws => .puncture m nOut (readBits nIn ws)
  | 0x32 => puncturing arg 4 fun m nOut nIn ws => .depuncture m nOut (readBytes nIn ws)
  | 0x33 => payload arg 1 fun ws => .llrMap (readWord ws)
  | 0x40 =>
    let nIn := (arg.extractLsb' 10 10).toNat
    let nOut := arg.extractLsb' 0 10
    reserved 0xF00000 arg
      (legal (vitCountsOk nIn nOut.toNat) (.accept (ceilDiv nIn 4) fun ws => .vitDecode nOut (readBytes nIn ws)))
  | 0x50 => frameKind arg .interleave
  | 0x51 => frameKind arg .deinterleave
  | 0x52 => payload arg 12 fun ws => .randomize (readBits 368 ws)
  | 0x53 => payload arg 92 fun ws => .derandomize (readBytes 368 ws)
  | 0x60 => payload arg 1 fun ws => .corSample (readWord ws)
  | 0x61 => selector arg .corCorrelate
  | 0x62 => selector arg .syncTriggered
  | 0x63 => selector arg .syncStep
  | 0x64 => selector arg .syncUpdated
  | 0x68 => payload arg 1 fun ws => .dcdSample (readWord ws)
  | 0x69 => plain arg .dcdUpdate
  | 0x70 => payload arg 1 fun ws => .clkSample (readWord ws)
  | 0x71 => plain arg .clkUpdate
  | 0x72 => plain arg .clkReset
  | 0x80 => reserved 0xFF0000 arg (.accept 0 fun _ => .frmPush (arg.extractLsb' 8 8) (arg.extractLsb' 0 8))
  | 0x81 => plain arg .frmReset
  | 0x88 =>
    reserved 0xFFFEFC arg
      (.accept 92 fun ws => .fdDecode (arg.getLsbD 8) (syncTypeOf (arg.extractLsb' 0 2)) (readBytes 368 ws))
  | 0x89 => plain arg .fdReset
  | 0x90 => reserved 0xFFFEFF arg (.accept 1 fun ws => .demSample (arg.getLsbD 8) (readWord ws))
  | 0xA0 => payload arg 8 fun ws => .encLsf (readBytes 30 ws)
  | 0xA1 =>
    let index := arg.extractLsb' 0 3
    reserved 0xFFFFF8 arg (legal (index.toNat ≤ 5) (.accept 2 fun ws => .encLich index (readBytes 5 ws)))
  | 0xA2 => payload arg 8 fun ws => .encStream (readBytes 30 ws)
  | 0xA3 => payload arg 7 fun ws => .encPacket (readBytes 26 ws)
  | 0xA4 => payload arg 7 fun ws => .encBert (readBytes 25 ws)
  | _ => .reject .illegalOp

/-! ### The command stream -/

/-- What the decoder finds at the head of a stream of words. -/
inductive Decoded where
  /-- The instruction and the number of words it takes, command word included. -/
  | instr (i : Instr) (len : Nat)
  /-- A fault of rule R91 (a) to (c), with the command word; one word is read. -/
  | reject (c : FaultCause) (w : Word32)
  /-- The words are all legal so far and the command is not complete. -/
  | incomplete
deriving DecidableEq, Repr

def decode : List Word32 → Decoded
  | [] => .incomplete
  | w :: ws =>
    match decodeCommand w with
    | .reject c => .reject c w
    | .accept plen build => if ws.length < plen then .incomplete else .instr (build (ws.take plen)) (plen + 1)

/-! ### The encoder -/

/-- A command word from its two fields (rule R81). -/
def command (op : BitVec 8) (arg : Nat) : Word32 :=
  op ++ BitVec.ofNat 24 arg

/-- The command word of an instruction (rules R83, R90). -/
def commandWord : Instr → Word32
  | .nop => command 0x00 0
  | .reset => command 0x01 0
  | .status => command 0x02 0
  | .setCfg p d => command 0x03 (2 * p.toNat + d.toNat)
  | .crcReset => command 0x10 0
  | .crcUpdate b => command 0x11 b.toNat
  | .crcUpdaten bytes => command 0x12 bytes.length
  | .crcFinal => command 0x13 0
  | .crcBytes => command 0x14 0
  | .golayEnc d => command 0x20 d.toNat
  | .golayDec w => command 0x21 w.toNat
  | .convEnc x => command 0x30 x.length
  | .puncture m nOut x => command 0x31 (m.code.toNat * 2 ^ 20 + x.length * 2 ^ 10 + nOut.toNat)
  | .depuncture m nOut y => command 0x32 (m.code.toNat * 2 ^ 20 + y.length * 2 ^ 10 + nOut.toNat)
  | .llrMap _ => command 0x33 0
  | .vitDecode nOut l => command 0x40 (l.length * 2 ^ 10 + nOut.toNat)
  | .interleave (.bits _) => command 0x50 0
  | .interleave (.llrs _) => command 0x50 1
  | .deinterleave (.bits _) => command 0x51 0
  | .deinterleave (.llrs _) => command 0x51 1
  | .randomize _ => command 0x52 0
  | .derandomize _ => command 0x53 0
  | .corSample _ => command 0x60 0
  | .corCorrelate w => command 0x61 w.code.toNat
  | .syncTriggered w => command 0x62 w.code.toNat
  | .syncStep w => command 0x63 w.code.toNat
  | .syncUpdated w => command 0x64 w.code.toNat
  | .dcdSample _ => command 0x68 0
  | .dcdUpdate => command 0x69 0
  | .clkSample _ => command 0x70 0
  | .clkUpdate => command 0x71 0
  | .clkReset => command 0x72 0
  | .frmPush a b => command 0x80 (a.toNat * 2 ^ 8 + b.toNat)
  | .frmReset => command 0x81 0
  | .fdDecode acc sync _ => command 0x88 (acc.toNat * 2 ^ 8 + sync.code.toNat)
  | .fdReset => command 0x89 0
  | .demSample acc _ => command 0x90 (acc.toNat * 2 ^ 8)
  | .encLsf _ => command 0xA0 0
  | .encLich index _ => command 0xA1 index.toNat
  | .encStream _ => command 0xA2 0
  | .encPacket _ => command 0xA3 0
  | .encBert _ => command 0xA4 0

/-- The payload words of an instruction, packed as rule R62 reads them, padding 0. -/
def payloadWords : Instr → List Word32
  | .nop => []
  | .reset => []
  | .status => []
  | .setCfg _ _ => []
  | .crcReset => []
  | .crcUpdate _ => []
  | .crcUpdaten bytes => packBytes bytes
  | .crcFinal => []
  | .crcBytes => []
  | .golayEnc _ => []
  | .golayDec _ => []
  | .convEnc x => packBits x
  | .puncture _ _ x => packBits x
  | .depuncture _ _ y => packBytes y
  | .llrMap x => [x]
  | .vitDecode _ l => packBytes l
  | .interleave (.bits x) => packBits x
  | .interleave (.llrs x) => packBytes x
  | .deinterleave (.bits y) => packBits y
  | .deinterleave (.llrs y) => packBytes y
  | .randomize x => packBits x
  | .derandomize l => packBytes l
  | .corSample x => [x]
  | .corCorrelate _ => []
  | .syncTriggered _ => []
  | .syncStep _ => []
  | .syncUpdated _ => []
  | .dcdSample x => [x]
  | .dcdUpdate => []
  | .clkSample x => [x]
  | .clkUpdate => []
  | .clkReset => []
  | .frmPush _ _ => []
  | .frmReset => []
  | .fdDecode _ _ f => packBytes f
  | .fdReset => []
  | .demSample _ x => [x]
  | .encLsf bytes => packBytes bytes
  | .encLich _ bytes => packBytes bytes
  | .encStream bytes => packBytes bytes
  | .encPacket bytes => packBytes bytes
  | .encBert bytes => packBytes bytes

/-- The words of an instruction: the command word and its payload (rule R80). -/
def encode (i : Instr) : List Word32 :=
  commandWord i :: payloadWords i

/-! ### One word of the opcode table -/

/-- The number of payload words a command word asks for, 0 for a rejected one. -/
def plenOf (w : Word32) : Nat :=
  match decodeCommand w with
  | .reject _ => 0
  | .accept plen _ => plen

/-- The words of the instruction whose bits are `w`, bit 0 the least significant bit of the command word and later words
counting on from it; every bit from `nbits` up is 0. -/
def tableWords (nbits w : Nat) : List Word32 :=
  let v := w % 2 ^ nbits
  let first := BitVec.ofNat 32 v
  first :: (List.range (plenOf first)).map fun k => BitVec.ofNat 32 (v / 2 ^ (32 * (k + 1)))

/-- The instruction the decoder reads from an instruction whose bits are `w`; `none` where it refuses. -/
def decodeTableWord (nbits w : Nat) : Option Instr :=
  match decode (tableWords nbits w) with
  | .instr i _ => some i
  | _ => none

end Sys2Proof
end

