-- ==== Sys2Proof/Machine/Rom.lean ====
section
/-! DEFINITION. The constant tables of spec/10_state.md rule R50 that are OPEN parameters, and the values M17CORE takes for
every OPEN parameter of spec/00_scope.md rule R11 (log entries 5, 6 and 7). -/

namespace Sys2Proof.Machine

open Sys2Proof

/-- `ROM.SYNC`, rule R197; STREAM and BERT are the negations of LSF and PACKET. -/
def romSync : SynSel → List Int
  | .preamble => [3, -3, 3, -3, 3, -3, 3, -3]
  | .lsf      => [3, 3, 3, 3, -3, -3, 3, -3]
  | .packet   => [3, -3, 3, 3, -3, -3, -3, -3]

/-- `SYN_MAG1`, rule R199. -/
def romMag1 : SynSel → RealVal
  | .preamble => 29
  | .lsf      => 32
  | .packet   => 31

/-- `SYN_MAG2`, rule R199: the PREAMBLE detector has no negative scale. -/
def romMag2 : SynSel → Option RealVal
  | .preamble => none
  | .lsf      => some (-31)
  | .packet   => some (-31)

/-- `ROM.P1`, `ROM.P2`, `ROM.P3`, rule R140. -/
def romMask : MaskSel → List Bool
  | .p1 => true :: (List.replicate 15 [true, false, true, true]).flatten
  | .p2 => List.replicate 11 true ++ [false]
  | .p3 => List.replicate 7 true ++ [false]

/-- `ROM.RAND_SEQ`, rule R180. -/
def romRandSeq : List Byte :=
  [0xD6, 0xB5, 0xE2, 0x30, 0x82, 0xFF, 0x84, 0x62, 0xBA, 0x4E, 0x96, 0x90, 0xD8, 0x98, 0xDD, 0x5D,
   0x0C, 0xC8, 0x52, 0x43, 0x91, 0x1D, 0xF8, 0x6E, 0x68, 0x2F, 0x35, 0xDA, 0x14, 0xEA, 0xCD, 0x76,
   0x19, 0x8D, 0xD5, 0x80, 0xD1, 0x33, 0x87, 0x13, 0x57, 0x18, 0x2D, 0x29, 0x78, 0xC3]

/-- `sgn(q) * floor(abs(q) + 1/2)`: the nearest integer, halves away from zero (rule R145). -/
def roundHalfAway (q : RealVal) : Int :=
  if q < 0 then -(|q| + 1 / 2).floor else (|q| + 1 / 2).floor

/-- `clamp(v, -LLR_MAX, +LLR_MAX)` (rule R15). -/
def clampLlr (v : Int) : Llr :=
  min (Config.LLR_MAX : Int) (max (-(Config.LLR_MAX : Int)) v)

/-- The instance of `llr_map` that M17CORE takes, rule R145: the first bit is 1 for a negative symbol, the second for
an outer symbol. -/
def llrMapLinear (x : RealVal) : Llr × Llr :=
  (clampLlr (roundHalfAway (-(Config.LLR_MAX : RealVal) * x)),
   clampLlr (roundHalfAway ((Config.LLR_MAX : RealVal) * (|x| - 2))))

/-- The instance of `lsf_class` that M17CORE takes, rule R246: byte 13, bit 0 and bits 2:1. -/
def lsfClassByType (lsf : List Byte) : FdState :=
  let t := lsf.getD 13 0
  if t.getLsbD 0 then .stream
  else if t.extractLsb' 1 2 = 1#2 then .basicPacket
  else .fullPacket

/-- The one-pole filter of rule R193: its state is its output. -/
def limitOnePole (state m : RealVal) : RealVal × RealVal :=
  (state + (m - state) / 128, state + (m - state) / 128)

/-- The identity estimator of rule R228: both functions change nothing, the accumulator stays empty. -/
def devEstIdentity : DevEst where
  empty      := []
  sample d _ := d
  update d   := d

/-- `dev_reset()` of rule R228: the registers' reset values (rule R40) and the accumulator's empty state. -/
def devReset (p : Params) : Dev :=
  { offset := 0, idev := 1, deviation := 0, error := 0, acc := p.devEst.empty }

/-- `W(2500)` of rule R206, cosine and minus sine of 2*pi*2500/48000, to the nearest multiple of 2^-64.
DESIGN CHOICE, log entry 4; unsafe. -/
def sdftW2500 : RealVal × RealVal :=
  (mkRat 17467777754480858698 (2 ^ 64), mkRat (-5929511551637462929) (2 ^ 64))

/-- `W(4000)` of rule R206: the cosine of 30 degrees to the nearest multiple of 2^-64, and exactly -1/2.
DESIGN CHOICE, log entry 4; unsafe. -/
def sdftW4000 : RealVal × RealVal :=
  (mkRat 15975348984942515102 (2 ^ 64), -1 / 2)

/-- `W(f)` of rule R206 for the two tones M17CORE takes; a free value for any other. -/
def sdftW (f : RealVal) : RealVal × RealVal :=
  if f = 2500 then sdftW2500 else if f = 4000 then sdftW4000 else Config.sdftWElse f

/-- The values M17CORE takes for the OPEN parameters. -/
def m17core : Params where
  sync        := romSync
  mag1        := romMag1
  mag2        := romMag2
  mask        := romMask
  randSeq     := romRandSeq
  mfTaps      := [1]
  limitState  := 2
  limitInit   := 2
  limitStep   := limitOnePole
  dcdFIn      := 2500
  dcdFOut     := 4000
  dcdW        := sdftW
  dcdN        := 96
  dcdHigh     := 4
  dcdLow      := 1
  dcdPoll     := 960
  diagCadence := 960
  llrMap      := llrMapLinear
  lsfClass    := lsfClassByType
  gateOnDcd   := false
  devEst      := devEstIdentity

end Sys2Proof.Machine
end

