-- ==== Sys2Proof/Machine/State.lean ====
section
/-! DEFINITION. The state of M17CORE, plain data, grouped by the unit that owns it (spec/10_state.md rules R20 to R45), its
reset value (rule R55), and the reasons a step can stop. -/

namespace Sys2Proof.Machine

open Sys2Proof

/-- What the host does to the core, in order (spec/60_exceptions.md rule R344; log entry 8). -/
inductive HostInput where
  /-- One word of the command stream. -/
  | word (w : Word32)
  /-- The hard-reset input is asserted; the words after it are the new command stream (rule R346). -/
  | hardReset
  /-- The hard-reset input is asserted during the operation whose words follow, after `events` of the event records of
  that operation were appended (rule R346; log entry 21). -/
  | hardResetDuring (events : Nat)
deriving DecidableEq, Repr

/-- The fault latch (rule R25). -/
structure CoreRegs where
  faultCode : BitVec 8
  faultCmd  : Word32
deriving DecidableEq, Repr

/-- The control register `CFG` (rule R26). -/
structure Cfg where
  polarityNeg : Bool
  diagEnable  : Bool
deriving DecidableEq, Repr

/-- The scratch of the Viterbi decoder (rule R33); `hist` has one row of sixteen bits per trellis step. -/
structure Vit where
  pm   : List Nat
  cm   : List Nat
  hist : List (List Bool)
deriving DecidableEq, Repr

/-- The correlator (rule R36). -/
structure Cor where
  buf     : Vector RealVal 80
  pos     : Fin 80
  prevPos : Fin 80
  limit   : RealVal
  lpf     : RealVal
deriving DecidableEq, Repr

/-- The three values of `SYN[w].updated` (rule R37). -/
inductive SyncSign where
  | zero | plus | minus
deriving DecidableEq, Repr

/-- One sync detector (rule R37). -/
structure Syn where
  samples     : Vector RealVal 10
  triggered   : Bool
  timingIndex : Fin 10
  updated     : SyncSign
deriving DecidableEq, Repr

/-- One sliding-DFT bin: accumulator `S`, delay line `d`, index `j` (rule R206). -/
structure Sdft where
  re    : RealVal
  im    : RealVal
  delay : List RealVal
  j     : Nat
deriving DecidableEq, Repr

/-- The carrier detector (rule R38). -/
structure Dcd where
  sdftIn  : Sdft
  sdftOut : Sdft
  accIn   : RealVal
  accOut  : RealVal
  level   : RealVal
  locked  : Bool
deriving DecidableEq, Repr

/-- Clock recovery (rule R39). -/
structure Clk where
  est             : Vector RealVal 10
  idx             : Fin 10
  prevSample      : RealVal
  sampleIndex     : Fin 10
  prevSampleIndex : Fin 10
  seeded          : Bool
  offsetTotal     : RealVal
  sampleCount     : Nat
  clock           : RealVal
deriving DecidableEq, Repr

/-- The framer (rule R41). -/
structure Frm where
  buf   : Vector Llr 368
  count : Nat
deriving DecidableEq, Repr

/-- The frame decoder (rule R42) with its private CRC register (rule R30). -/
structure Fd where
  state    : FdState
  lichMask : BitVec 6
  lsf      : Vector Byte 30
  cost     : Nat
  crc      : BitVec 16
deriving DecidableEq, Repr

/-- The demodulator (rules R43 and R44). -/
structure Dem where
  state            : DemodState
  syncWordType     : SyncType
  sampleIndex      : Fin 10
  syncSampleIndex  : Fin 10
  missingSyncCount : Nat
  syncCount        : Nat
  costCount        : Nat
  viterbiCost      : Nat
  dcd              : Bool
  needClockReset   : Bool
  needClockUpdate  : Bool
  pollCount        : Nat
  diagCount        : Nat
  mf               : List RealVal
deriving DecidableEq, Repr

/-- The whole machine. -/
structure State where
  /-- What the host has supplied and the core has not read yet (rule R60; log entry 8). -/
  input      : List HostInput
  /-- The index of the next unread command word, the pc a model may keep (rule R22; log entry 12). -/
  cmdIndex   : Nat
  /-- The response stream (rule R60). -/
  rsp        : List Word32
  core       : CoreRegs
  cfg        : Cfg
  crc        : BitVec 16
  cnvMem     : BitVec 4
  vit        : Vit
  cor        : Cor
  synPreamble : Syn
  synLsf     : Syn
  synPacket  : Syn
  dcd        : Dcd
  clk        : Clk
  dev        : Dev
  frm        : Frm
  fd         : Fd
  dem        : Dem
deriving DecidableEq, Repr

/-- Why a step can stop the machine. -/
inductive Fault where
  /-- Raised by `step` when the fault latch is set and no hard reset stands in the host's inputs: the core executes
  nothing (spec/60_exceptions.md rule R322, spec/93_implementation_defined.md T6 `stuck`).  Safe: the state stays
  what it was. -/
  | halted
deriving DecidableEq, Repr

/-- Why the model gives no meaning. -/
inductive Refusal where
  /-- Raised by `exec` for an instruction without a meaning yet; no instruction of this model is left so.  Safe. -/
  | notModelled (mnemonic : String)
deriving DecidableEq, Repr

/-! ### Reset values, rule R55 -/

def Syn.reset : Syn :=
  { samples := Vector.replicate 10 0, triggered := false, timingIndex := 0, updated := .zero }

def Sdft.reset (n : Nat) : Sdft :=
  { re := 0, im := 0, delay := List.replicate n 0, j := 0 }

def Clk.reset : Clk :=
  { est := Vector.replicate 10 0, idx := 0, prevSample := 0, sampleIndex := 0, prevSampleIndex := 0, seeded := false,
    offsetTotal := 0, sampleCount := 0, clock := 1 }

/-- The reset state for any values of the OPEN parameters.  `vit`, `frm.buf` and `fd.crc` are unspecified by rule R55 and
are zero here (log entry 2). -/
def State.resetFor (p : Params) : State :=
  { input := []
    cmdIndex := 0
    rsp := []
    core := { faultCode := 0, faultCmd := 0 }
    cfg := { polarityNeg := false, diagEnable := false }
    crc := Config.CRC_SEED
    cnvMem := 0
    vit := { pm := List.replicate 16 0, cm := List.replicate 16 0,
             hist := List.replicate Config.VIT_HIST (List.replicate 16 false) }
    cor := { buf := Vector.replicate 80 0, pos := 0, prevPos := 0, limit := p.limitInit, lpf := p.limitState }
    synPreamble := Syn.reset
    synLsf := Syn.reset
    synPacket := Syn.reset
    dcd := { sdftIn := Sdft.reset p.dcdN, sdftOut := Sdft.reset p.dcdN, accIn := 0, accOut := 0, level := 0,
             locked := false }
    clk := Clk.reset
    dev := devReset p
    frm := { buf := Vector.replicate 368 0, count := 0 }
    fd := { state := .lsf, lichMask := 0, lsf := Vector.replicate 30 0, cost := 0, crc := 0 }
    dem := { state := .unlocked, syncWordType := .lsf, sampleIndex := 0, syncSampleIndex := 0, missingSyncCount := 0,
             syncCount := 0, costCount := 0, viterbiCost := 0, dcd := false, needClockReset := false,
             needClockUpdate := false, pollCount := 0, diagCount := 0, mf := List.replicate p.mfTaps.length 0 } }

/-- The machine right after reset (rule R55; power-up is a hard reset with an empty response stream, rule R346). -/
def State.reset : State :=
  State.resetFor m17core

end Sys2Proof.Machine
end

