-- ==== Sys2Proof/Machine/Ops.lean ====
section
/-! DEFINITION. The named operations over the streams and the registers: reading and appending words, responses and events
(spec/30_encoding.md rules R85 to R89), taking a fault and returning from one (spec/60_exceptions.md rule R322,
spec/70_reset_and_hazards.md rule R346). -/

namespace Sys2Proof.Machine

open Sys2Proof

/-- The outcome type of every meaning. -/
abbrev Result := Host.Outcome State Fault Refusal

/-! ### The response stream -/

/-- A record: header `rop`, `status`, `rlen`, then the payload words (rule R85). -/
def recordWords (rop status : BitVec 8) (values : List Word32) : List Word32 :=
  (rop ++ status ++ BitVec.ofNat 16 values.length) :: values

/-- Append words to the response stream (rule R60). -/
def append (ws : List Word32) (s : State) : State :=
  { s with rsp := s.rsp ++ ws }

/-- `respond(status, kind, values)` for an operation with code `op`; `values` are the packed payload words (rule R85). -/
def respond (op status : BitVec 8) (values : List Word32) (s : State) : State :=
  append (recordWords op status values) s

/-! ### Faults -/

/-- The codes of rule R321. -/
def faultCodeOf : FaultCause → BitVec 8
  | .illegalOp => 0x80
  | .badArg => 0x81
  | .badOperand => 0x82

/-- `raise Fault(code)` for the command word `w`: nothing of the operation has happened in `s`; the latch is written and
the fault record appended (rules R89, R322). -/
def takeFault (c : FaultCause) (w : Word32) (s : State) : State :=
  append (recordWords 0xFF (faultCodeOf c) [w]) { s with core := { faultCode := faultCodeOf c, faultCmd := w } }

/-- The fault output, also the halt condition (rules R25, R339). -/
def State.faulted (s : State) : Bool :=
  s.core.faultCode ≠ 0

/-- Every register at its reset value, the streams as they are (rule R345); the body of the `RESET` operation
(rule R347). -/
def State.resetRegisters (p : Params) (s : State) : State :=
  { State.resetFor p with input := s.input, cmdIndex := s.cmdIndex, rsp := s.rsp }

/-- The return from a halt: the hard reset.  The registers and the latch take their reset values, `input` is the new
command stream, the response stream is kept (rules R328, R346). -/
def State.hardReset (p : Params) (input : List HostInput) (s : State) : State :=
  { State.resetFor p with input := input, rsp := s.rsp }

/-! ### The command stream -/

/-- The words supplied before the next hard reset. -/
def pendingWords : List HostInput → List Word32
  | .word w :: rest => w :: pendingWords rest
  | _ => []

/-- What stands after the next hard reset, if one is asserted: the words before it are discarded (rule R346). -/
def afterHardReset : List HostInput → Option (List HostInput)
  | [] => none
  | .word _ :: rest => afterHardReset rest
  | .hardReset :: rest => some rest
  | .hardResetDuring _ :: rest => some rest

/-- Read `n` words of the command stream (rules R22, R60, R323). -/
def State.consume (n : Nat) (s : State) : State :=
  { s with input := s.input.drop n, cmdIndex := s.cmdIndex + n }

/-- The words of the first `k` records of `ws`, fewer if there are fewer; `fuel` is at least the number of records. -/
def firstRecords : Nat → Nat → List Word32 → List Word32
  | 0, _, _ => []
  | _ + 1, 0, _ => []
  | _ + 1, _ + 1, [] => []
  | fuel + 1, k + 1, h :: ws =>
    let len := (h.extractLsb' 0 16).toNat
    (h :: ws.take len) ++ firstRecords fuel k (ws.drop len)

/-- The number of records in `ws`; `fuel` is at least that number. -/
def countRecords : Nat → List Word32 → Nat
  | 0, _ => 0
  | _ + 1, [] => 0
  | fuel + 1, h :: ws => 1 + countRecords fuel (ws.drop (h.extractLsb' 0 16).toNat)

/-- Of the records one operation appends, the event records that stand when a hard reset arrives after the first
`events` of them: all records but the last, which is the response or the fault record (rule R346). -/
def eventsBeforeReset (events : Nat) (appended : List Word32) : List Word32 :=
  firstRecords appended.length (min events (countRecords appended.length appended - 1)) appended

/-! ### The three sync detectors -/

/-- `SYN[w]`. -/
def State.syn (s : State) : SynSel → Syn
  | .preamble => s.synPreamble
  | .lsf => s.synLsf
  | .packet => s.synPacket

def State.setSyn (s : State) (w : SynSel) (y : Syn) : State :=
  match w with
  | .preamble => { s with synPreamble := y }
  | .lsf => { s with synLsf := y }
  | .packet => { s with synPacket := y }

end Sys2Proof.Machine
end

