-- ==== Sys2Proof/Machine/Operands.lean ====
section
/-! DEFINITION. Operands and results as values: LLRs (spec/60_exceptions.md rule R325), binary32 samples (rule R326,
spec/20_memory.md rule R62) and binary32 results (rule R63). -/

namespace Sys2Proof.Machine

open Sys2Proof

/-! ### LLRs -/

/-- A byte that is an LLR: two's complement, within the symmetric range. -/
def llrOk (b : Byte) : Bool :=
  b.toInt.natAbs ≤ Config.LLR_MAX

/-- An `llr` operand: `none` when an element is out of range, which raises BAD_OPERAND (rule R325). -/
def llrsOf (bytes : List Byte) : Option (List Llr) :=
  if bytes.all llrOk then some (bytes.map fun b => b.toInt) else none

/-- LLRs as response bytes (rule R63). -/
def llrBytes (ls : List Llr) : List Byte :=
  ls.map fun l => BitVec.ofInt 8 l

/-! ### binary32 -/

/-- The value of a binary32 word, `none` for an infinity or a NaN, which raise BAD_OPERAND (rule R326). -/
def realOfF32 (w : Word32) : Option RealVal :=
  let e := (w.extractLsb' 23 8).toNat
  let m := (w.extractLsb' 0 23).toNat
  let mag : RealVal :=
    if e = 0 then mkRat m (2 ^ 149)
    else if e < 150 then mkRat (2 ^ 23 + m) (2 ^ (150 - e))
    else ((2 ^ 23 + m) * 2 ^ (e - 150) : Nat)
  if e = 255 then none else some (if w.getLsbD 31 then -mag else mag)

/-- The exponent of the binary32 quantum of a positive `n/d`, never below that of the subnormals. -/
def quantumExp (n d : Nat) : Int :=
  let e : Int := (Nat.log2 n : Int) - (Nat.log2 d : Int)
  let below : Bool := if 0 ≤ e then n < d * 2 ^ e.toNat else n * 2 ^ (-e).toNat < d
  let top : Int := if below then e - 1 else e
  max (top - 23) (-149)

/-- The magnitude bits of the binary32 nearest to a positive `n/d`; at a tie `up` decides.  A value at or above
`255 * 2^23` means that the result is out of range. -/
def magnitudeBits (n d : Nat) (up : Bool) : Nat :=
  let q := quantumExp n d
  let num := if 0 ≤ q then n else n * 2 ^ (-q).toNat
  let den := if 0 ≤ q then d * 2 ^ q.toNat else d
  let m := num / den
  let twice := 2 * (num % den)
  let m' := if den < twice || (twice == den && up) then m + 1 else m
  (q + 149).toNat * 2 ^ 23 + m'

/-- "the binary32 nearest to it" (rule R63).  At a tie, for the sign of a zero that a real other than 0 rounds to, and
beyond the range, the spec says no more and the result is a free value (log entry 3). -/
def f32OfReal (x : RealVal) : Word32 :=
  if x = 0 then 0
  else
    let bits := magnitudeBits x.num.natAbs x.den (Config.f32TieUp x)
    if 255 * 2 ^ 23 ≤ bits then Config.f32OutOfRange x
    else
      let sign : Bool := if bits = 0 then Config.f32ZeroSign x else decide (x < 0)
      BitVec.ofNat 32 (sign.toNat * 2 ^ 31 + bits)

/-! ### Ring arithmetic (spec/00_scope.md rule R15) -/

/-- `x mod 80` for the ring positions. -/
def ring (x : Int) : Fin 80 :=
  ⟨(x % 80).toNat, by have h1 := Int.emod_nonneg x (b := 80) (by decide)
                      have h2 := Int.emod_lt_of_pos x (b := 80) (by decide)
                      omega⟩

/-- `x mod 10` for the sample phases. -/
def phase (x : Nat) : Fin 10 :=
  ⟨x % 10, Nat.mod_lt x (by decide)⟩

end Sys2Proof.Machine
end

