-- ==== Sys2Proof/Machine/Flags.lean ====
section
/-! DEFINITION. M17CORE has no condition codes (spec/10_state.md rule R24); what stands in their place is the status of a
response (spec/30_encoding.md rule R86), the numbers of the enumerations (spec/10_state.md rule R27) and the fields of the
STATUS words (spec/60_exceptions.md rule R335). -/

namespace Sys2Proof.Machine

open Sys2Proof

def statusOk : BitVec 8 := 0x00
def statusUncorrectable : BitVec 8 := 0x10
def statusFrameReady : BitVec 8 := 0x11

/-- Codes 0x00 to 0x04 are the numbers of `Result` (rule R86). -/
def resultCode : FdResult → BitVec 8
  | .ok => 0x00
  | .fail => 0x01
  | .incomplete => 0x02
  | .eos => 0x03
  | .packetIncomplete => 0x04

def demodCode : DemodState → Nat
  | .unlocked => 0
  | .lsfSync => 1
  | .streamSync => 2
  | .packetSync => 3
  | .bertSync => 4
  | .frame => 5

def fdStateCode : FdState → Nat
  | .lsf => 0
  | .stream => 1
  | .basicPacket => 2
  | .fullPacket => 3
  | .bert => 4

def syncTypeCode : SyncType → Nat
  | .lsf => 0
  | .stream => 1
  | .packet => 2
  | .bert => 3

def frameTypeCode : FrameType → BitVec 8
  | .lsf => 0
  | .lich => 1
  | .stream => 2
  | .basicPacket => 3
  | .fullPacket => 4
  | .bert => 5

/-- `SYN[w].updated` as a number. -/
def SyncSign.toInt : SyncSign → Int
  | .zero => 0
  | .plus => 1
  | .minus => -1

/-- The value `v` in a field of `width` bits whose lowest bit is bit `lo` of a word. -/
def field (lo width v : Nat) : Word32 :=
  BitVec.ofNat 32 (v % 2 ^ width * 2 ^ lo)

/-- A word put together from fields that do not overlap. -/
def wordOfFields (fs : List Word32) : Word32 :=
  fs.foldl (· ||| ·) 0

/-- The eight words of STATUS (rule R335). -/
def statusWords (s : State) : List Word32 :=
  [ wordOfFields
      [ field 0 3 (demodCode s.dem.state), field 4 3 (fdStateCode s.fd.state), field 8 1 s.dem.dcd.toNat,
        field 9 2 (syncTypeCode s.dem.syncWordType), field 12 4 s.dem.sampleIndex.val, field 16 1 s.cfg.diagEnable.toNat,
        field 17 1 s.cfg.polarityNeg.toNat, field 18 1 s.dcd.locked.toNat, field 19 1 s.clk.seeded.toNat,
        field 20 4 s.dem.syncSampleIndex.val, field 24 4 s.clk.sampleIndex.val, field 28 1 s.dem.needClockReset.toNat,
        field 29 1 s.dem.needClockUpdate.toNat ],
    wordOfFields
      [ field 0 6 s.fd.lichMask.toNat, field 8 8 s.dem.costCount, field 16 12 s.dem.missingSyncCount ],
    BitVec.ofNat 32 s.dem.viterbiCost,
    BitVec.ofNat 32 s.fd.cost,
    wordOfFields [ field 0 16 s.crc.toNat, field 16 9 s.frm.count ],
    wordOfFields
      [ field 0 8 s.dem.syncCount, field 8 7 s.cor.pos.val, field 16 7 s.cor.prevPos.val,
        field 24 1 s.synPreamble.triggered.toNat, field 25 1 s.synLsf.triggered.toNat,
        field 26 1 s.synPacket.triggered.toNat ],
    f32OfReal s.cor.limit,
    f32OfReal s.clk.clock ]

/-! ### Events -/

/-- The words of `EV_FRAME` (rule R87): the cost, the 30 bytes of `FD.lsf`, the bytes of the variant. -/
def frameEvent (t : FrameType) (cost : Nat) (lsf : List Byte) (variant : List Byte) : List Word32 :=
  recordWords 0xF0 (frameTypeCode t) (BitVec.ofNat 32 cost :: (packBytes lsf ++ packBytes variant))

/-- The words of `EV_DIAG` (rule R88). -/
def diagEvent (s : State) : List Word32 :=
  recordWords 0xF1 0
    [ wordOfFields
        [ field 0 1 s.dem.dcd.toNat, field 4 3 (demodCode s.dem.state), field 8 2 (syncTypeCode s.dem.syncWordType),
          field 12 4 s.dem.sampleIndex.val, field 16 4 s.dem.syncSampleIndex.val ],
      f32OfReal s.dev.error,
      f32OfReal s.dev.deviation,
      f32OfReal s.dev.offset,
      f32OfReal s.clk.clock,
      BitVec.ofNat 32 s.dem.viterbiCost ]

end Sys2Proof.Machine
end

