-- ==== Sys2Proof/Machine/Correlator.lean ====
section
/-! DEFINITION. The correlator, the sync-word detectors and the carrier detector (spec/45_correlator_sync_dcd.md). -/

namespace Sys2Proof.Machine

open Sys2Proof

/-! ### Correlator -/

/-- `cor_index()` of rule R191: the phase of the newest sample. -/
def corIndex (c : Cor) : Fin 10 :=
  phase c.prevPos.val

/-- `cor_sample(x)` of rule R192. -/
def corSample (p : Params) (x : RealVal) (c : Cor) : Cor :=
  { buf := c.buf.set c.pos.val x c.pos.isLt
    pos := ring (c.pos.val + 1)
    prevPos := c.pos
    limit := (p.limitStep c.lpf |x|).2
    lpf := (p.limitStep c.lpf |x|).1 }

/-- The sample of symbol `k` of the window of rule R195: ten samples apart, symbol 7 the newest. -/
def corTap (c : Cor) (k : Nat) : RealVal :=
  c.buf[ring (c.prevPos.val + 10 * (k + 1))]

/-- `correlate(w)` of rule R195, summed in the order k = 0, 1, ..., 7. -/
def correlate (p : Params) (c : Cor) (w : SynSel) : RealVal :=
  (List.range Config.SYNC_SYMS).foldl (fun acc k => acc + ((p.sync w).getD k 0 : Int) * corTap c k) 0

/-! ### Sync-word detectors -/

/-- `hi(w)` of rule R199. -/
def triggerHi (p : Params) (c : Cor) (w : SynSel) : RealVal :=
  c.limit * p.mag1 w

/-- `lo(w)` of rule R199, where the detector has a negative scale. -/
def triggerLo (p : Params) (c : Cor) (w : SynSel) : Option RealVal :=
  (p.mag2 w).map fun m => c.limit * m

/-- `v` is below `f` times the negative threshold; false where there is none. -/
def belowLo (p : Params) (c : Cor) (w : SynSel) (f v : RealVal) : Bool :=
  match triggerLo p c w with
  | none => false
  | some lo => decide (v < f * lo)

/-- `syn_triggered(w)` of rule R200. -/
def synTriggered (p : Params) (c : Cor) (w : SynSel) : RealVal :=
  let v := correlate p c w
  if triggerHi p c w < v then v
  else if belowLo p c w 1 v then v
  else 0

/-- `syn_strong(w, v)` of rule R201. -/
def synStrong (p : Params) (c : Cor) (w : SynSel) (v : RealVal) : Bool :=
  decide (Config.TRIGGER_FRACTION * triggerHi p c w < v) || belowLo p c w Config.TRIGGER_FRACTION v

/-- `syn_peak(w)` of rule R203: the largest magnitude, the earliest index at a tie. -/
def synPeak (samples : Vector RealVal 10) : Fin 10 × RealVal :=
  (List.finRange 10).foldl (fun best i => if |best.2| < |samples[i]| then (i, samples[i]) else best) (0, 0)

/-- `syn_step(w)` of rule R202; the value returned is the new `timingIndex`. -/
def synStep (p : Params) (c : Cor) (w : SynSel) (y : Syn) : Syn :=
  let v := synTriggered p c w
  if v ≠ 0 then
    let base := if y.triggered then y.samples else Vector.replicate 10 0
    { y with samples := base.set (corIndex c).val v (corIndex c).isLt, triggered := true }
  else if y.triggered then
    let peak := synPeak y.samples
    { y with triggered := false, timingIndex := peak.1, updated := if 0 < peak.2 then .plus else .minus }
  else y

/-- `syn_updated(w)` of rule R204 leaves the register cleared; the value read is `y.updated`. -/
def synClear (y : Syn) : Syn :=
  { y with updated := .zero }

/-! ### Carrier detector -/

/-- `sdft_step(bin, x, f)` of rule R206, with `W(f)` given. -/
def sdftStep (w : RealVal × RealVal) (x : RealVal) (b : Sdft) : Sdft :=
  let u := b.re + (x - b.delay.getD b.j 0)
  { re := u * w.1 - b.im * w.2
    im := u * w.2 + b.im * w.1
    delay := b.delay.set b.j x
    j := (b.j + 1) % b.delay.length }

/-- `re^2 + im^2` (rule R209). -/
def sdftPower (b : Sdft) : RealVal :=
  b.re * b.re + b.im * b.im

/-- `dcd_sample(x)` of rule R209. -/
def dcdSample (p : Params) (x : RealVal) (d : Dcd) : Dcd :=
  let a := sdftStep (p.dcdW p.dcdFIn) x d.sdftIn
  let b := sdftStep (p.dcdW p.dcdFOut) x d.sdftOut
  { d with sdftIn := a, sdftOut := b, accIn := d.accIn + sdftPower a, accOut := d.accOut + sdftPower b }

/-- The ratio of rule R210, 0 for an empty out-of-band accumulator. -/
def dcdRatio (d : Dcd) : RealVal :=
  if d.accOut = 0 then 0 else d.accIn / d.accOut

/-- The smoothed level of rule R210. -/
def dcdLevel (d : Dcd) : RealVal :=
  Config.DCD_EMA_OLD * d.level + Config.DCD_EMA_NEW * dcdRatio d

/-- `dcd_update()` of rule R210; the value returned is the new `locked`. -/
def dcdUpdate (p : Params) (d : Dcd) : Dcd :=
  { d with
    level := dcdLevel d
    accIn := 0
    accOut := 0
    locked := decide ((if d.locked then p.dcdLow else p.dcdHigh) < dcdLevel d) }

/-! ### Operations -/

/-- An operation with one binary32 operand: BAD_OPERAND for an infinity or a NaN (rule R326), else `k`. -/
def withSample (x w : Word32) (s : State) (k : RealVal → State) : Result :=
  match realOfF32 x with
  | none => .next (takeFault .badOperand w s)
  | some r => .next (k r)

/-- COR_SAMPLE, rule R192. -/
def execCorSampleFor (p : Params) (x : Word32) (s : State) : Result :=
  withSample x (commandWord (.corSample x)) s fun r =>
    respond 0x60 statusOk [] { s with cor := corSample p r s.cor }

/-- COR_SAMPLE with the parameters M17CORE takes. -/
def execCorSample (x : Word32) (s : State) : Result :=
  execCorSampleFor m17core x s

/-- COR_CORRELATE, rule R195. -/
def execCorCorrelateFor (p : Params) (w : SynSel) (s : State) : Result :=
  .next (respond 0x61 statusOk [f32OfReal (correlate p s.cor w)] s)

/-- COR_CORRELATE with the parameters M17CORE takes. -/
def execCorCorrelate (w : SynSel) (s : State) : Result :=
  execCorCorrelateFor m17core w s

/-- SYNC_TRIGGERED, rule R200. -/
def execSyncTriggeredFor (p : Params) (w : SynSel) (s : State) : Result :=
  .next (respond 0x62 statusOk [f32OfReal (synTriggered p s.cor w)] s)

/-- SYNC_TRIGGERED with the parameters M17CORE takes. -/
def execSyncTriggered (w : SynSel) (s : State) : Result :=
  execSyncTriggeredFor m17core w s

/-- SYNC_STEP, rule R202. -/
def execSyncStepFor (p : Params) (w : SynSel) (s : State) : Result :=
  let y := synStep p s.cor w (s.syn w)
  .next (respond 0x63 statusOk [BitVec.ofNat 32 y.timingIndex.val] (s.setSyn w y))

/-- SYNC_STEP with the parameters M17CORE takes. -/
def execSyncStep (w : SynSel) (s : State) : Result :=
  execSyncStepFor m17core w s

/-- SYNC_UPDATED, rule R204: the read clears the register. -/
def execSyncUpdated (w : SynSel) (s : State) : Result :=
  .next (respond 0x64 statusOk [BitVec.ofInt 32 (s.syn w).updated.toInt] (s.setSyn w (synClear (s.syn w))))

/-- DCD_SAMPLE, rule R209. -/
def execDcdSampleFor (p : Params) (x : Word32) (s : State) : Result :=
  withSample x (commandWord (.dcdSample x)) s fun r =>
    respond 0x68 statusOk [] { s with dcd := dcdSample p r s.dcd }

/-- DCD_SAMPLE with the parameters M17CORE takes. -/
def execDcdSample (x : Word32) (s : State) : Result :=
  execDcdSampleFor m17core x s

/-- DCD_UPDATE, rule R210. -/
def execDcdUpdateFor (p : Params) (s : State) : Result :=
  let d := dcdUpdate p s.dcd
  .next (respond 0x69 statusOk [BitVec.ofNat 32 d.locked.toNat] { s with dcd := d })

/-- DCD_UPDATE with the parameters M17CORE takes. -/
def execDcdUpdate (s : State) : Result :=
  execDcdUpdateFor m17core s

end Sys2Proof.Machine
end

