-- ==== Sys2Proof/Machine/Clock.lean ====
section
/-! DEFINITION. Clock recovery (spec/46_clock_recovery_estimators.md). -/

namespace Sys2Proof.Machine

open Sys2Proof

/-- The sign-corrected difference of adjacent samples of rule R216. -/
def clkSlope (prev x : RealVal) : RealVal :=
  if x + prev < 0 then -(x - prev) else x - prev

/-- `clk_sample(x)` of rule R216. -/
def clkSample (x : RealVal) (c : Clk) : Clk :=
  { c with
    prevSample := x
    est := c.est.set c.idx.val (c.est[c.idx] + clkSlope c.prevSample x) c.idx.isLt
    idx := phase (c.idx.val + 1)
    sampleCount := if c.seeded then c.sampleCount + 1 else c.sampleCount }

/-- The scan of rule R218 over the bins still to visit: the bin of the falling edge, 0 when there is none. -/
def fallingEdgeScan (est : Vector RealVal 10) : List (Fin 10) → Bool → Fin 10
  | [], _ => 0
  | i :: is, seenPos =>
    if seenPos then (if est[i] < 0 then i else fallingEdgeScan est is true)
    else fallingEdgeScan est is (decide (0 < est[i]))

/-- `clk_falling_edge()` of rule R218: one position before the transition. -/
def clkFallingEdge (est : Vector RealVal 10) : Fin 10 :=
  phase ((fallingEdgeScan est (List.finRange 10) false).val + 9)

/-- `clk_drift(new, old)` of rule R219. -/
def clkDrift (new old : Fin 10) : Int :=
  let off : Int := (new.val : Int) - old.val
  if 5 < off then off - 10 else if off < -5 then off + 10 else off

/-- `clk_estimate()` of rule R220. -/
def clkEstimate (offsetTotal : RealVal) (sampleCount : Nat) : RealVal :=
  min (1 + Config.CLK_MAX_DRIFT) (max (1 - Config.CLK_MAX_DRIFT) (1 + offsetTotal / sampleCount))

/-- `clk_update()` of rules R217 and R221. -/
def clkUpdate (c : Clk) : Clk :=
  let i := clkFallingEdge c.est
  let total := c.offsetTotal + clkDrift i c.prevSampleIndex
  let cleared := { c with sampleIndex := i, prevSampleIndex := i, est := Vector.replicate 10 0 }
  if c.seeded then
    { cleared with
      offsetTotal := total
      clock := if 0 < c.sampleCount then clkEstimate total c.sampleCount else c.clock }
  else { cleared with seeded := true, offsetTotal := 0, sampleCount := 0 }

/-- `clk_reset()` of rule R222. -/
def clkReset (_ : Clk) : Clk :=
  Clk.reset

/-- CLK_SAMPLE, rule R216. -/
def execClkSample (x : Word32) (s : State) : Result :=
  withSample x (commandWord (.clkSample x)) s fun r =>
    respond 0x70 statusOk [] { s with clk := clkSample r s.clk }

/-- CLK_UPDATE, rule R217. -/
def execClkUpdate (s : State) : Result :=
  let c := clkUpdate s.clk
  .next (respond 0x71 statusOk [BitVec.ofNat 32 c.sampleIndex.val, f32OfReal c.clock] { s with clk := c })

/-- CLK_RESET, rule R222. -/
def execClkReset (s : State) : Result :=
  .next (respond 0x72 statusOk [] { s with clk := clkReset s.clk })

end Sys2Proof.Machine
end

