-- ==== Sys2Proof/Machine/Crc.lean ====
section
/-! DEFINITION. The CRC unit and its five operations (spec/40_crc16.md). -/

namespace Sys2Proof.Machine

open Sys2Proof

/-- `shift(reg, b)` of rule R112. -/
def crcShift (reg : BitVec 16) (b : Bool) : BitVec 16 :=
  let r := (reg <<< 1) ||| BitVec.ofNat 16 b.toNat
  if reg.getLsbD 15 then r ^^^ Config.CRC_POLY else r

/-- `crc_update(reg, byte)` of rule R112, most significant bit first. -/
def crcUpdate (reg : BitVec 16) (b : Byte) : BitVec 16 :=
  (bitsOf b).foldl crcShift reg

/-- The fold of rules R115 and R118. -/
def crcFold (reg : BitVec 16) (bytes : List Byte) : BitVec 16 :=
  bytes.foldl crcUpdate reg

/-- `crc_final(reg)` of rule R113: sixteen zero shifts. -/
def crcFinal (reg : BitVec 16) : BitVec 16 :=
  (List.replicate 16 false).foldl crcShift reg

/-- `crc16(B)` of rule R118. -/
def crc16 (bytes : List Byte) : BitVec 16 :=
  crcFinal (crcFold Config.CRC_SEED bytes)

/-- `v[15:8], v[7:0]` (rule R114). -/
def crcByteList (v : BitVec 16) : List Byte :=
  [v.extractLsb' 8 8, v.extractLsb' 0 8]

/-- CRC_RESET, rule R111. -/
def execCrcReset (s : State) : Result :=
  .next (respond 0x10 statusOk [] { s with crc := Config.CRC_SEED })

/-- CRC_UPDATE, rule R112. -/
def execCrcUpdate (b : Byte) (s : State) : Result :=
  .next (respond 0x11 statusOk [] { s with crc := crcUpdate s.crc b })

/-- CRC_UPDATEN, rule R115. -/
def execCrcUpdaten (bytes : List Byte) (s : State) : Result :=
  if (Instr.crcUpdaten bytes).wellFormed then
    .next (respond 0x12 statusOk [] { s with crc := crcFold s.crc bytes })
  else .next (takeFault .badArg (commandWord (.crcUpdaten bytes)) s)

/-- CRC_FINAL, rule R113: the shifts are made on a copy. -/
def execCrcFinal (s : State) : Result :=
  .next (respond 0x13 statusOk [(crcFinal s.crc).setWidth 32] s)

/-- CRC_BYTES, rule R114. -/
def execCrcBytes (s : State) : Result :=
  .next (respond 0x14 statusOk (packBytes (crcByteList (crcFinal s.crc))) s)

end Sys2Proof.Machine
end

