-- ==== Sys2Proof/Machine/Golay.lean ====
section
/-! DEFINITION. The Golay(24,12) unit, its syndrome table and its two operations (spec/41_golay24.md). -/

namespace Sys2Proof.Machine

open Sys2Proof

/-- One step of the polynomial reduction (rule R121). -/
def golayReduceStep (v : BitVec 23) : BitVec 23 :=
  (if v.getLsbD 0 then v ^^^ Config.GOLAY_POLY else v) >>> 1

/-- `golay_reduce(v)`: twelve steps; the result fits in 11 bits (rule R121). -/
def golayReduce (v : BitVec 23) : BitVec 23 :=
  Nat.repeat golayReduceStep 12 v

/-- `golay_enc23(d)` of rule R122. -/
def golayEnc23 (d : BitVec 12) : BitVec 23 :=
  (d.setWidth 23 <<< 11) ||| golayReduce (d.setWidth 23)

/-- `golay_enc24(d)` of rule R122: data in 23:12, checks in 11:1, overall parity in 0. -/
def golayEnc24 (d : BitVec 12) : BitVec 24 :=
  ((golayEnc23 d).setWidth 24 <<< 1) ||| BitVec.ofNat 24 (parity (golayEnc23 d)).toNat

/-- `golay_syndrome(w23)` of rule R123. -/
def golaySyndrome (w : BitVec 23) : BitVec 11 :=
  (golayReduce w).setWidth 11

/-- The 23-bit pattern with exactly the bits of `ps`. -/
def golayPattern (ps : List Nat) : BitVec 23 :=
  ps.foldl (fun e i => e ^^^ (1#23 <<< i)) 0

/-- The 1 + 23 + 253 + 1771 patterns of at most three bits of rule R124, lightest first. -/
def golayPatterns : List (BitVec 23) :=
  let js := List.range 23
  [golayPattern []] ++
  js.map (fun i => golayPattern [i]) ++
  js.flatMap (fun i => (List.range i).map fun j => golayPattern [i, j]) ++
  js.flatMap (fun i => (List.range i).flatMap fun j => (List.range j).map fun k => golayPattern [i, j, k])

/-- `ROM.GOLAY_LUT` (rule R124): the pattern of at most three bits whose syndrome is `s`. -/
def golayLut (s : BitVec 11) : Option (BitVec 23) :=
  golayPatterns.find? fun e => golaySyndrome e == s

/-- `golay_dec24(w)` of rule R125; `none` is Uncorrectable. -/
def golayDec24 (w : BitVec 24) : Option (BitVec 12) :=
  match golayLut (golaySyndrome (w.extractLsb' 1 23)) with
  | none => none
  | some e =>
    let out := w ^^^ (e.setWidth 24 <<< 1)
    if popcount e ≤ 2 || !parity out then some (out.extractLsb' 12 12) else none

/-- GOLAY_ENC, rule R122. -/
def execGolayEnc (d : BitVec 12) (s : State) : Result :=
  .next (respond 0x20 statusOk [(golayEnc24 d).setWidth 32] s)

/-- The response of GOLAY_DEC: the data, or UNCORRECTABLE without payload. -/
def golayResponse (r : Option (BitVec 12)) (s : State) : State :=
  match r with
  | some d => respond 0x21 statusOk [d.setWidth 32] s
  | none => respond 0x21 statusUncorrectable [] s

/-- GOLAY_DEC, rule R125: UNCORRECTABLE is a status, not a fault. -/
def execGolayDec (w : BitVec 24) (s : State) : Result :=
  .next (golayResponse (golayDec24 w) s)

end Sys2Proof.Machine
end

