-- ==== Sys2Proof/Machine/Interleave.lean ====
section
/-! DEFINITION. The interleaver and the randomizer (spec/44_interleaver_randomizer.md). -/

namespace Sys2Proof.Machine

open Sys2Proof

/-- `ilv_index(i)` of rule R176. -/
def ilvIndex (i : Nat) : Nat :=
  (Config.ILV_F1 * i + Config.ILV_F2 * i * i) % Config.ILV_K

/-- `interleave(x)` of rule R177: scatter; `d` fills a position that nothing is written to (there is none). -/
def interleave {α : Type} (d : α) (x : List α) : List α :=
  ((x.take Config.ILV_K).zipIdx).foldl (fun y xi => y.set (ilvIndex xi.2) xi.1) (List.replicate Config.ILV_K d)

/-- `deinterleave(y)` of rule R178: gather. -/
def deinterleave {α : Type} (d : α) (y : List α) : List α :=
  (List.range Config.ILV_K).map fun i => y.getD (ilvIndex i) d

/-- `rand_bit(i)` for all `i` of rule R180. -/
def randBits (seq : List Byte) : List Bool :=
  bitsOfBytes seq

/-- `randomize(x)` of rule R181. -/
def randomize (seq : List Byte) (x : List Bool) : List Bool :=
  List.zipWith (· ^^ ·) x (randBits seq)

/-- `derandomize(l)` of rule R182. -/
def derandomize (seq : List Byte) (l : List Llr) : List Llr :=
  List.zipWith (fun v b => if b then -v else v) l (randBits seq)

/-- The body of INTERLEAVE and DEINTERLEAVE: `perm` on bits or on LLRs (rules R177, R178). -/
def permuteFrame (op : BitVec 8) (onBits : List Bool → List Bool) (onLlrs : List Llr → List Llr) (w : Word32)
    (x : FrameOperand) (s : State) : Result :=
  match x with
  | .bits b => .next (respond op statusOk (packBits (onBits b)) s)
  | .llrs l =>
    match llrsOf l with
    | none => .next (takeFault .badOperand w s)
    | some ls => .next (respond op statusOk (packBytes (llrBytes (onLlrs ls))) s)

/-- INTERLEAVE, rule R177. -/
def execInterleave (x : FrameOperand) (s : State) : Result :=
  permuteFrame 0x50 (interleave false) (interleave 0) (commandWord (.interleave x)) x s

/-- DEINTERLEAVE, rule R178. -/
def execDeinterleave (y : FrameOperand) (s : State) : Result :=
  permuteFrame 0x51 (deinterleave false) (deinterleave 0) (commandWord (.deinterleave y)) y s

/-- RANDOMIZE, rule R181. -/
def execRandomizeFor (p : Params) (x : List Bool) (s : State) : Result :=
  .next (respond 0x52 statusOk (packBits (randomize p.randSeq x)) s)

/-- RANDOMIZE with the parameters M17CORE takes. -/
def execRandomize (x : List Bool) (s : State) : Result :=
  execRandomizeFor m17core x s

/-- DERANDOMIZE, rule R182. -/
def execDerandomizeFor (p : Params) (l : List Byte) (s : State) : Result :=
  match llrsOf l with
  | none => .next (takeFault .badOperand (commandWord (.derandomize l)) s)
  | some ls => .next (respond 0x53 statusOk (packBytes (llrBytes (derandomize p.randSeq ls))) s)

/-- DERANDOMIZE with the parameters M17CORE takes. -/
def execDerandomize (l : List Byte) (s : State) : Result :=
  execDerandomizeFor m17core l s

end Sys2Proof.Machine
end

