-- ==== Sys2Proof/Machine/Conv.lean ====
section
/-! DEFINITION. The convolutional encoder, puncturing, depuncturing and the LLR map (spec/42_convolutional_puncture.md). -/

namespace Sys2Proof.Machine

open Sys2Proof

/-- `conv_step(mem, b)` of rule R136: the outputs `o0`, `o1` and the new memory. -/
def convStep (mem : BitVec 4) (b : Bool) : Bool × Bool × BitVec 4 :=
  let w : BitVec 5 := mem ++ BitVec.ofBool b
  (parity (w &&& Config.CNV_G1), parity (w &&& Config.CNV_G2), w.setWidth 4)

/-- The encoder run over a block from memory `mem`: coded bits and final memory (rule R138). -/
def convRun : BitVec 4 → List Bool → List Bool × BitVec 4
  | mem, [] => ([], mem)
  | mem, b :: bs =>
    let (o0, o1, mem') := convStep mem b
    let (out, last) := convRun mem' bs
    (o0 :: o1 :: out, last)

/-- The block followed by the 4-bit zero flush tail (rule R138). -/
def convBlock (x : List Bool) : List Bool × BitVec 4 :=
  convRun 0 (x ++ List.replicate Config.CNV_MEM false)

/-- `conv_encode(x)` of rule R138. -/
def convEncode (x : List Bool) : List Bool :=
  (convBlock x).1

/-- `puncture(x, M, cap)` of rule R141 from mask position `p`. -/
def punctureFrom {α : Type} (m : List Bool) : Nat → Nat → List α → List α
  | _, _, [] => []
  | _, 0, _ :: _ => []
  | p, cap + 1, x :: xs =>
    if m.getD p false then x :: punctureFrom m ((p + 1) % m.length) cap xs
    else punctureFrom m ((p + 1) % m.length) (cap + 1) xs

def puncture {α : Type} (x : List α) (m : List Bool) (cap : Nat) : List α :=
  punctureFrom m 0 cap x

/-- `depuncture(y, M, n_out)` of rule R142 from mask position `p`; an erasure is `e`. -/
def depunctureFrom {α : Type} (e : α) (m : List Bool) : Nat → Nat → List α → List α
  | _, 0, _ => []
  | p, n + 1, [] => e :: depunctureFrom e m ((p + 1) % m.length) n []
  | p, n + 1, y :: ys =>
    if m.getD p false then y :: depunctureFrom e m ((p + 1) % m.length) n ys
    else e :: depunctureFrom e m ((p + 1) % m.length) n (y :: ys)

def depuncture (y : List Llr) (m : List Bool) (nOut : Nat) : List Llr :=
  depunctureFrom 0 m 0 nOut y

/-- CONV_ENC, rule R138: `CNV.mem` starts and ends at 0 (rule R32). -/
def execConvEnc (x : List Bool) (s : State) : Result :=
  if (Instr.convEnc x).wellFormed then
    .next (respond 0x30 statusOk (packBits (convEncode x)) { s with cnvMem := (convBlock x).2 })
  else .next (takeFault .badArg (commandWord (.convEnc x)) s)

/-- PUNCTURE, rule R141: the count in a word of its own, then the kept bits. -/
def execPunctureFor (p : Params) (mask : MaskSel) (nOut : BitVec 10) (x : List Bool) (s : State) : Result :=
  if (Instr.puncture mask nOut x).wellFormed then
    let y := puncture x (p.mask mask) nOut.toNat
    .next (respond 0x31 statusOk (BitVec.ofNat 32 y.length :: packBits y) s)
  else .next (takeFault .badArg (commandWord (.puncture mask nOut x)) s)

/-- PUNCTURE with the parameters M17CORE takes. -/
def execPuncture (mask : MaskSel) (nOut : BitVec 10) (x : List Bool) (s : State) : Result :=
  execPunctureFor m17core mask nOut x s

/-- DEPUNCTURE, rule R142. -/
def execDepunctureFor (p : Params) (mask : MaskSel) (nOut : BitVec 10) (y : List Byte) (s : State) : Result :=
  if (Instr.depuncture mask nOut y).wellFormed then
    match llrsOf y with
    | none => .next (takeFault .badOperand (commandWord (.depuncture mask nOut y)) s)
    | some ls =>
      .next (respond 0x32 statusOk (packBytes (llrBytes (depuncture ls (p.mask mask) nOut.toNat))) s)
  else .next (takeFault .badArg (commandWord (.depuncture mask nOut y)) s)

/-- DEPUNCTURE with the parameters M17CORE takes. -/
def execDepuncture (mask : MaskSel) (nOut : BitVec 10) (y : List Byte) (s : State) : Result :=
  execDepunctureFor m17core mask nOut y s

/-- LLR_MAP, rule R146. -/
def execLlrMapFor (p : Params) (x : Word32) (s : State) : Result :=
  match realOfF32 x with
  | none => .next (takeFault .badOperand (commandWord (.llrMap x)) s)
  | some r =>
    .next (respond 0x33 statusOk (packBytes (llrBytes [(p.llrMap r).1, (p.llrMap r).2])) s)

/-- LLR_MAP with the parameters M17CORE takes. -/
def execLlrMap (x : Word32) (s : State) : Result :=
  execLlrMapFor m17core x s

end Sys2Proof.Machine
end

