-- ==== Sys2Proof/Machine/Viterbi.lean ====
section
/-! DEFINITION. The Viterbi soft-decision trellis decoder and its operation (spec/43_viterbi.md). -/

namespace Sys2Proof.Machine

open Sys2Proof

/-! ### The trellis, rules R156 and R157 -/

/-- `ROM.VIT_NEXT[s][b]`. -/
def vitNext (s : BitVec 4) (b : Bool) : BitVec 4 :=
  (s <<< 1) ||| BitVec.ofNat 4 b.toNat

/-- `ROM.VIT_PREV[ns][d]`. -/
def vitPrev (ns : BitVec 4) (d : Bool) : BitVec 4 :=
  (ns >>> 1) ||| BitVec.ofNat 4 (8 * d.toNat)

/-- `ROM.VIT_EXP[0][s][b]` and `ROM.VIT_EXP[1][s][b]`. -/
def vitExp (s : BitVec 4) (b : Bool) : Llr × Llr :=
  (soft (convStep s b).1, soft (convStep s b).2.1)

/-- The sixteen states in order. -/
def vitStates : List (BitVec 4) :=
  (List.range 16).map (BitVec.ofNat 4)

/-! ### One trellis step, rules R158 to R160 -/

/-- The initial metrics of rule R158. -/
def vitInit : List Nat :=
  0 :: List.replicate 15 Config.METRIC_INF

/-- `half(e, l)` of rule R159: an erasure costs nothing. -/
def halfCost (e l : Llr) : Nat :=
  if l = 0 then 0 else (e - l).natAbs

/-- `bc(ps, b, l0, l1)` of rule R159. -/
def branchCost (ps : BitVec 4) (b : Bool) (l0 l1 : Llr) : Nat :=
  halfCost (vitExp ps b).1 l0 + halfCost (vitExp ps b).2 l1

/-- The metric of the path into `ns` through the predecessor `d` (rule R160). -/
def pathMetric (pm : List Nat) (ns : BitVec 4) (d : Bool) (l0 l1 : Llr) : Nat :=
  pm.getD (vitPrev ns d).toNat 0 + branchCost (vitPrev ns d) (ns.getLsbD 0) l0 l1

/-- Rule R160: the comparison is strict, so predecessor 0 wins a tie. -/
def selectD (pm : List Nat) (l0 l1 : Llr) (ns : BitVec 4) : Bool :=
  decide (pathMetric pm ns true l0 l1 < pathMetric pm ns false l0 l1)

/-- `acs_step` of rule R160: the new metrics and the row of the history. -/
def acsStep (pm : List Nat) (l0 l1 : Llr) : List Nat × List Bool :=
  (vitStates.map fun ns => pathMetric pm ns (selectD pm l0 l1 ns) l0 l1, vitStates.map (selectD pm l0 l1))

/-- All steps of a block: final metrics and the history rows, first step first; an odd last element is not a step. -/
def acsRun : List Nat → List Llr → List Nat × List (List Bool)
  | pm, l0 :: l1 :: ls =>
    let (pm', row) := acsStep pm l0 l1
    let (last, rows) := acsRun pm' ls
    (last, row :: rows)
  | pm, _ => (pm, [])

/-! ### Termination, chainback and cost, rules R163 to R165 -/

/-- The state of least metric, the lowest index at a tie (rule R163). -/
def bestState (pm : List Nat) : BitVec 4 :=
  vitStates.foldl (fun best s => if pm.getD s.toNat 0 < pm.getD best.toNat 0 then s else best) 0

/-- The chainback of rule R164 over the rows, last step first. -/
def chainBack : List (List Bool) → BitVec 4 → List Bool → List Bool
  | [], _, acc => acc
  | row :: rows, s, acc => chainBack rows (vitPrev s (row.getD s.toNat false)) (s.getLsbD 0 :: acc)

/-- `cost = round(min_metric / LLR_MAX)`, a half rounding up (rule R165). -/
def pathCost (minMetric : Nat) : Nat :=
  (2 * minMetric + Config.LLR_MAX) / (2 * Config.LLR_MAX)

/-- What one decode of rule R166 produces: the bits, the winning metric, the cost, and the scratch it leaves. -/
structure VitOut where
  bits      : List Bool
  minMetric : Nat
  cost      : Nat
  pm        : List Nat
  rows      : List (List Bool)
deriving DecidableEq, Repr

/-- `viterbi(l, n_out)` of rule R166. -/
def viterbi (l : List Llr) (nOut : Nat) : VitOut :=
  let run := acsRun vitInit l
  let best := bestState run.1
  let m := run.1.getD best.toNat 0
  { bits := (chainBack run.2.reverse best []).take nOut, minMetric := m, cost := pathCost m, pm := run.1,
    rows := run.2 }

/-- The scratch after a decode: both metric arrays hold the last metrics, the rows of the steps made are overwritten and
later rows are left (rules R33, R160, R161; log entry 15). -/
def Vit.after (v : Vit) (o : VitOut) : Vit :=
  { pm := o.pm, cm := if o.rows.isEmpty then v.cm else o.pm, hist := o.rows ++ v.hist.drop o.rows.length }

/-- VIT_DECODE, rule R166. -/
def execVitDecode (nOut : BitVec 10) (l : List Byte) (s : State) : Result :=
  if (Instr.vitDecode nOut l).wellFormed then
    match llrsOf l with
    | none => .next (takeFault .badOperand (commandWord (.vitDecode nOut l)) s)
    | some ls =>
      let o := viterbi ls nOut.toNat
      .next (respond 0x40 statusOk (BitVec.ofNat 32 o.cost :: packBits o.bits) { s with vit := s.vit.after o })
  else .next (takeFault .badArg (commandWord (.vitDecode nOut l)) s)

end Sys2Proof.Machine
end

