-- ==== Sys2Proof/Machine/FrameDecoder.lean ====
section
/-! DEFINITION. The frame decoder (spec/47_framer_framedecoder.md sections 2 to 8). -/

namespace Sys2Proof.Machine

open Sys2Proof

/-- What one decode call works on and leaves: the decoder's registers and the Viterbi scratch, the result, the cost, and
the words of the event it emits (rule R243: at most one). -/
structure FdOut where
  fd     : Fd
  vit    : Vit
  result : FdResult
  cost   : Nat
  event  : List Word32
deriving DecidableEq, Repr

/-- Thirty bytes as the register `FD.lsf`. -/
def lsfOfList (bytes : List Byte) : Vector Byte 30 :=
  Vector.ofFn fun i => bytes.getD i.val 0

/-- The zero LSF that a CRC failure leaves (rule R244). -/
def lsfZero : Vector Byte 30 :=
  Vector.replicate 30 0

/-- Depuncture and decode (rules R244, R251, R253, R255): mask, coded length, data length. -/
def fdViterbi (p : Params) (x : List Llr) (m : MaskSel) (coded data : Nat) : VitOut :=
  viterbi (depuncture x (p.mask m) coded) data

/-- `fd_lsf(x)` of rule R244; the checksum runs in the private register (rule R30). -/
def fdLsf (p : Params) (x : List Llr) (fd : Fd) (vit : Vit) : FdOut :=
  let o := fdViterbi p x .p1 488 240
  let lsf := lsfOfList (bytesOfBits o.bits)
  let fd := { fd with state := .lsf, crc := crcFold Config.CRC_SEED lsf.toList }
  if crc16 lsf.toList = 0 then
    { fd := { fd with lsf := lsf, state := p.lsfClass lsf.toList }, vit := vit.after o, result := .ok, cost := o.cost,
      event := frameEvent .lsf o.cost lsf.toList [] }
  else
    { fd := { fd with lichMask := 0, lsf := lsfZero }, vit := vit.after o, result := .fail, cost := o.cost, event := [] }

/-- The 24-bit word of 24 LLRs, the first in bit 23, an erasure read as 0 (rule R248). -/
def golayWord (ls : List Llr) : BitVec 24 :=
  BitVec.ofNat 24 (natOfBits (ls.map hard))

/-- `lich_golay(y)` of rule R248 on the four codewords: all twelve-bit groups, or `none` when one is uncorrectable. -/
def lichGroups : List (List Llr) → Option (List (BitVec 12))
  | [] => some []
  | c :: cs =>
    match golayDec24 (golayWord c) with
    | none => none
    | some d => (lichGroups cs).map (d :: ·)

/-- `lich_golay(y)` of rule R248: the six bytes. -/
def lichGolay (y : List Llr) : Option (List Byte) :=
  (lichGroups (chunks 24 (y.take 96))).map fun ds => bytesOfBits (ds.flatMap bitsOf)

/-- The fragment number `B[5][7:5]` (rule R249). -/
def lichNumber (b : List Byte) : Nat :=
  ((b.getD 5 0).extractLsb' 5 3).toNat

/-- `FD.lsf` with slot `n` overwritten by the first five bytes of `b` (rule R247). -/
def storeFragment (n : Nat) (b : List Byte) (lsf : Vector Byte 30) : Vector Byte 30 :=
  Vector.ofFn fun i => if 5 * n ≤ i.val ∧ i.val < 5 * n + 5 then b.getD (i.val - 5 * n) 0 else lsf[i]

/-- `fd_lich(x)` of rules R247, R249, R250. -/
def fdLich (x : List Llr) (fd : Fd) (vit : Vit) : FdOut :=
  match lichGolay x with
  | none => { fd := fd, vit := vit, result := .fail, cost := 0, event := [] }
  | some b =>
    let n := lichNumber b
    if 5 < n then { fd := fd, vit := vit, result := .fail, cost := 0, event := [] }
    else
      let lsf := storeFragment n b fd.lsf
      let mask := fd.lichMask ||| (1#6 <<< n)
      let fd := { fd with lsf := lsf, lichMask := mask }
      if mask ≠ 0x3F then
        { fd := fd, vit := vit, result := .incomplete, cost := 0, event := frameEvent .lich 0 lsf.toList b }
      else
        let fd := { fd with crc := crcFold Config.CRC_SEED lsf.toList }
        if crc16 lsf.toList = 0 then
          { fd := { fd with lichMask := 0, state := .stream }, vit := vit, result := .ok, cost := 0,
            event := frameEvent .lsf 0 lsf.toList [] }
        else { fd := fd, vit := vit, result := .fail, cost := 0, event := frameEvent .lich 0 lsf.toList b }

/-- `fd_stream(x)` of rules R251 and R252. -/
def fdStream (p : Params) (x : List Llr) (fd : Fd) (vit : Vit) : FdOut :=
  let o := fdViterbi p (x.drop 96) .p2 296 144
  let pay := bytesOfBits o.bits
  let event := frameEvent .stream o.cost fd.lsf.toList pay
  if (pay.getD 0 0).getLsbD 7 && decide (o.cost < Config.EOS_COST_MAX) then
    { fd := { fd with state := .lsf }, vit := vit.after o, result := .eos, cost := o.cost, event := event }
  else { fd := fd, vit := vit.after o, result := .ok, cost := o.cost, event := event }

/-- `fd_packet(x, acc)` of rules R253 and R254; `t` is `FD.state` as a frame type. -/
def fdPacket (p : Params) (t : FrameType) (acc : Bool) (x : List Llr) (fd : Fd) (vit : Vit) : FdOut :=
  let o := fdViterbi p x .p3 420 206
  let pkt := bytesOfBits o.bits
  let event := frameEvent t o.cost fd.lsf.toList pkt
  if (pkt.getD 25 0).getLsbD 7 then
    { fd := { fd with state := .lsf }, vit := vit.after o, result := if acc then .ok else .fail, cost := o.cost,
      event := event }
  else { fd := fd, vit := vit.after o, result := .packetIncomplete, cost := o.cost, event := event }

/-- `fd_bert(x)` of rule R255. -/
def fdBert (p : Params) (x : List Llr) (fd : Fd) (vit : Vit) : FdOut :=
  let o := fdViterbi p x .p2 402 197
  { fd := { fd with state := .bert }, vit := vit.after o, result := .ok, cost := o.cost,
    event := frameEvent .bert o.cost fd.lsf.toList (bytesOfBits o.bits) }

/-- `fd_mismatch()` of rule R256. -/
def fdMismatch (fd : Fd) (vit : Vit) : FdOut :=
  { fd := { fd with state := .lsf }, vit := vit, result := .fail, cost := 0, event := [] }

/-- The dispatch of rules R240 and R241 on the sync type and `FD.state`, on the frame already de-randomized and
de-interleaved. -/
def fdDispatch (p : Params) (sync : SyncType) (acc : Bool) (x : List Llr) (fd : Fd) (vit : Vit) : FdOut :=
  match sync, fd.state with
  | .lsf, _ => fdLsf p x fd vit
  | .stream, .lsf => fdLich x fd vit
  | .stream, .stream => fdStream p x fd vit
  | .packet, .basicPacket => fdPacket p .basicPacket acc x fd vit
  | .packet, .fullPacket => fdPacket p .fullPacket acc x fd vit
  | .bert, _ => fdBert p x fd vit
  | .stream, _ => fdMismatch fd vit
  | .packet, _ => fdMismatch fd vit

/-- The first two stages of a decode, in the order of rule R183. -/
def fdFrame (p : Params) (f : List Llr) : List Llr :=
  deinterleave 0 (derandomize p.randSeq f)

/-- `fd_decode(sync, f, acc)` of rule R240. -/
def fdDecode (p : Params) (sync : SyncType) (acc : Bool) (f : List Llr) (fd : Fd) (vit : Vit) : FdOut :=
  let o := fdDispatch p sync acc (fdFrame p f) fd vit
  { o with fd := { o.fd with cost := o.cost } }

/-- `fd_reset()` of rule R262; the private CRC register is not one of those it names. -/
def fdReset (fd : Fd) : Fd :=
  { fd with state := .lsf, lichMask := 0, lsf := lsfZero, cost := 0 }

/-- The state after a decode, its event appended (rules R87, R240). -/
def applyFd (o : FdOut) (s : State) : State :=
  append o.event { s with fd := o.fd, vit := o.vit }

/-- FD_DECODE, rule R240: the event stands before the response. -/
def execFdDecodeFor (p : Params) (accept : Bool) (sync : SyncType) (f : List Byte) (s : State) : Result :=
  match llrsOf f with
  | none => .next (takeFault .badOperand (commandWord (.fdDecode accept sync f)) s)
  | some ls =>
    let o := fdDecode p sync accept ls s.fd s.vit
    .next (respond 0x88 (resultCode o.result) [BitVec.ofNat 32 o.cost] (applyFd o s))

/-- FD_DECODE with the parameters M17CORE takes. -/
def execFdDecode (accept : Bool) (sync : SyncType) (f : List Byte) (s : State) : Result :=
  execFdDecodeFor m17core accept sync f s

/-- FD_RESET, rule R262. -/
def execFdReset (s : State) : Result :=
  .next (respond 0x89 statusOk [] { s with fd := fdReset s.fd })

end Sys2Proof.Machine
end

