-- ==== Sys2Proof/Machine/Framer.lean ====
section
/-! DEFINITION. The framer (spec/47_framer_framedecoder.md section 1). -/

namespace Sys2Proof.Machine

open Sys2Proof

/-- The buffer after the two LLRs of one symbol are stored (rule R236). -/
def frmStore (a b : Llr) (f : Frm) : Vector Llr 368 :=
  (f.buf.setIfInBounds f.count a).setIfInBounds (f.count + 1) b

/-- `frm_push(a, b)` of rule R236: the framer after it, and the frame when this push completes one. -/
def frmPush (a b : Llr) (f : Frm) : Frm × Option (List Llr) :=
  let buf := frmStore a b f
  if f.count + 2 = Config.FRAME_LLRS then ({ buf := buf, count := 0 }, some buf.toList)
  else ({ buf := buf, count := f.count + 2 }, none)

/-- `frm_reset()` of rule R237. -/
def frmReset (f : Frm) : Frm :=
  { f with count := 0 }

/-- The response of FRM_PUSH (rule R236). -/
def frmResponse (frame : Option (List Llr)) (s : State) : State :=
  match frame with
  | some ls => respond 0x80 statusFrameReady (packBytes (llrBytes ls)) s
  | none => respond 0x80 statusOk [] s

/-- FRM_PUSH, rule R236. -/
def execFrmPush (a b : Byte) (s : State) : Result :=
  if llrOk a && llrOk b then
    let r := frmPush a.toInt b.toInt s.frm
    .next (frmResponse r.2 { s with frm := r.1 })
  else .next (takeFault .badOperand (commandWord (.frmPush a b)) s)

/-- FRM_RESET, rule R237. -/
def execFrmReset (s : State) : Result :=
  .next (respond 0x81 statusOk [] { s with frm := frmReset s.frm })

end Sys2Proof.Machine
end

