-- ==== Sys2Proof/Machine/Demod.lean ====
section
/-! DEFINITION. The demodulator state machine (spec/48_demodulator.md). -/

namespace Sys2Proof.Machine

open Sys2Proof

/-! ### Small steps shared by the handlers -/

/-- `mf_step(x)` of rule R273: the delay line after the sample. -/
def mfShift (p : Params) (x : RealVal) (mf : List RealVal) : List RealVal :=
  (x :: mf).take p.mfTaps.length

/-- `mf_step(x)` of rule R273: the filter's output, summed in the order k = 0, 1, ... -/
def mfOutput (p : Params) (mf : List RealVal) : RealVal :=
  (List.zipWith (· * ·) p.mfTaps mf).foldl (· + ·) 0

/-- `diag_emit()` of rule R300: the fields are read at this moment. -/
def diagEmit (s : State) : State :=
  if s.cfg.diagEnable then append (diagEvent s) s else s

/-- `fd_reset()` on the state. -/
def resetFd (s : State) : State :=
  { s with fd := fdReset s.fd }

/-- `near(a, b)` of rule R278. -/
def near (a b : Fin 10) : Bool :=
  let d := ((a.val : Int) - b.val).natAbs
  d ≤ 1 || d == 9

/-- The ring position of rule R279: the newest whose phase is `i`. -/
def syncPosition (c : Cor) (i : Fin 10) : Fin 80 :=
  ring ((c.prevPos.val : Int) - ((((corIndex c).val : Int) - i.val) % 10))

/-- The eight sync symbols at phase `i`, first symbol first (rule R279). -/
def syncSymbols (c : Cor) (i : Fin 10) : List RealVal :=
  (List.range 8).map fun k => c.buf[ring (((syncPosition c i).val : Int) - 10 * (7 - k))]

/-- `record_sync(i, full)` of rule R279. -/
def recordSync (p : Params) (i : Fin 10) (full : Bool) (s : State) : State :=
  let dev := if full then devReset p else s.dev
  { s with
    dev := p.devEst.update ((syncSymbols s.cor i).foldl p.devEst.sample dev)
    dem := { s.dem with
      needClockReset := full || s.dem.needClockReset
      sampleIndex := if full then i else s.dem.sampleIndex
      syncSampleIndex := i } }

/-! ### Clock housekeeping, rule R278 -/

/-- The sampling phase after a clock update that chose `c`. -/
def reconcile (c syncIdx cur : Fin 10) : Fin 10 :=
  if near c cur then c else if near syncIdx cur then syncIdx else cur

def clockHousekeeping (s : State) : State :=
  if s.dem.needClockReset then
    { s with clk := clkReset s.clk, dem := { s.dem with needClockReset := false } }
  else if s.dem.needClockUpdate then
    let clk := clkUpdate s.clk
    { s with
      clk := clk
      dem := { s.dem with
        needClockUpdate := false
        sampleIndex := reconcile clk.sampleIndex s.dem.syncSampleIndex s.dem.sampleIndex } }
  else s

/-! ### UNLOCKED, rules R280 and R281 -/

/-- `found(i, next, type)`; `none` leaves the sync-word type unchanged. -/
def found (p : Params) (i : Fin 10) (next : DemodState) (type : Option SyncType) (s : State) : State :=
  let s := recordSync p i true s
  { s with dem := { s.dem with
      syncCount := 0
      missingSyncCount := 0
      syncWordType := type.getD s.dem.syncWordType
      state := next } }

/-- One detector stepped and then read: the state after it; the values read are those of `steppedSyn`. -/
def steppedSyn (p : Params) (w : SynSel) (s : State) : Syn :=
  synStep p s.cor w (s.syn w)

def stepAndRead (p : Params) (w : SynSel) (s : State) : State :=
  s.setSyn w (synClear (steppedSyn p w s))

def searchPreamble (p : Params) (s : State) : State :=
  let y := steppedSyn p .preamble s
  let s := stepAndRead p .preamble s
  let s := { s with dem := { s.dem with missingSyncCount := s.dem.missingSyncCount + 1 } }
  if y.updated ≠ .zero then found p y.timingIndex .lsfSync none s else s

def searchFallback (p : Params) (s : State) : State :=
  let y1 := steppedSyn p .lsf s
  let y2 := steppedSyn p .packet s
  let s := stepAndRead p .packet (stepAndRead p .lsf s)
  if y1.updated ≠ .zero then found p y1.timingIndex .lsfSync none s
  else match y2.updated with
    | .minus => found p y2.timingIndex .frame (some .bert) s
    | .plus => found p y2.timingIndex .lsfSync none s
    | .zero => s

def handleUnlocked (p : Params) (s : State) : State :=
  if s.dem.missingSyncCount < Config.PREAMBLE_SEARCH then searchPreamble p s else searchFallback p s

/-! ### LSF_SYNC, rules R283 and R284 -/

def hit (p : Params) (type : SyncType) (s : State) : State :=
  let s := { s with dem := { s.dem with missingSyncCount := 0, needClockUpdate := true } }
  let s := recordSync p s.dem.sampleIndex false s
  { s with dem := { s.dem with syncWordType := type, state := .frame } }

def miss (s : State) : State :=
  if Config.LSF_MISS_LIMIT ≤ s.dem.missingSyncCount + 1 then
    resetFd { s with dem := { s.dem with state := .unlocked, missingSyncCount := 0 } }
  else { s with dem := { s.dem with missingSyncCount := s.dem.missingSyncCount + 1 } }

def handleLsfSync (p : Params) (s : State) : State :=
  if corIndex s.cor ≠ s.dem.sampleIndex then s
  else
    let pre := synTriggered p s.cor .preamble
    let l := synTriggered p s.cor .lsf
    let k := synTriggered p s.cor .packet
    if synStrong p s.cor .preamble pre then s
    else if synStrong p s.cor .lsf l then hit p (if 0 < l then .lsf else .stream) s
    else if synStrong p s.cor .packet k then hit p (if 0 < k then .packet else .bert) s
    else miss s

/-! ### STREAM_SYNC, PACKET_SYNC, BERT_SYNC, rules R285 to R291 -/

/-- Giving up after `MAX_MISSING_SYNC` misses; a fall back to UNLOCKED resets the frame decoder (rule R291). -/
def giveUp (fallback : DemodState) (s : State) : State :=
  let s := { s with dem := { s.dem with missingSyncCount := 0, state := fallback } }
  if fallback = .unlocked then resetFd s else s

/-- The handler of one row of the table of rule R285. -/
def handleResync (p : Params) (w : SynSel) (sign : SyncSign) (tag : SyncType) (fallback : DemodState) (s : State) :
    State :=
  let y := steppedSyn p w s
  let s := stepAndRead p w s
  let n := s.dem.syncCount + 1
  let s := { s with dem := { s.dem with syncCount := n } }
  if y.updated = sign then
    let s := { s with dem := { s.dem with missingSyncCount := 0 } }
    if Config.SYNC_DWELL_MIN < n then
      let s := recordSync p y.timingIndex false s
      { s with dem := { s.dem with syncWordType := tag, state := .frame } }
    else s
  else if Config.SYNC_DWELL_MAX < n then
    if s.dem.missingSyncCount + 1 < Config.MAX_MISSING_SYNC then
      { s with dem := { s.dem with
          missingSyncCount := s.dem.missingSyncCount + 1, syncWordType := tag, state := .frame } }
    else giveUp fallback s
  else s

/-! ### FRAME, rules R292 to R297 -/

/-- `soft_symbol(y)` of rule R296; the polarity is `CFG.polarity_neg` (rule R44). -/
def softSymbol (s : State) (y : RealVal) : RealVal :=
  (y - s.dev.offset) * s.dev.idev * (if s.cfg.polarityNeg then -1 else 1)

/-- `strike(cost)` of rule R294: the counter after a frame of that cost. -/
def strike (cost count : Nat) : Nat :=
  (if Config.COST_TH1 < cost then count + 1 else 0) + (if Config.COST_TH2 < cost then 1 else 0) +
    (if Config.COST_TH3 < cost then 1 else 0)

/-- `next_state(res)` of rule R295. -/
def nextState (res : FdResult) (fd : FdState) : DemodState :=
  if res = .eos then .lsfSync
  else match fd with
    | .stream => .streamSync
    | .lsf => .streamSync
    | .bert => .bertSync
    | .basicPacket => .packetSync
    | .fullPacket => .packetSync

/-- `frame_done(frame, acc)` of rule R297; every completed frame clears `DEM.sync_count` (spec/10_state.md rule R28; log
entry 23). -/
def frameDone (p : Params) (frame : List Llr) (acc : Bool) (s : State) : State :=
  let o := fdDecode p s.dem.syncWordType acc frame s.fd s.vit
  let strikes := strike o.cost s.dem.costCount
  let s := applyFd o { s with dem := { s.dem with needClockUpdate := true, viterbiCost := o.cost, syncCount := 0 } }
  if Config.STRIKE_LIMIT < strikes then
    resetFd { s with dem := { s.dem with costCount := 0, missingSyncCount := 0, state := .unlocked } }
  else
    { s with dem := { s.dem with costCount := strikes, state := nextState o.result o.fd.state } }

def handleFrame (p : Params) (y : RealVal) (acc : Bool) (s : State) : State :=
  if corIndex s.cor ≠ s.dem.sampleIndex then s
  else
    let ab := p.llrMap (softSymbol s y)
    let r := frmPush ab.1 ab.2 s.frm
    let s := { s with frm := r.1 }
    match r.2 with
    | none => s
    | some frame => frameDone p frame acc s

/-! ### One sample, rule R271 -/

/-- Step 7: the handler of the state at the start of the step. -/
def demHandler (p : Params) (y : RealVal) (acc : Bool) (s : State) : State :=
  match s.dem.state with
  | .unlocked => handleUnlocked p s
  | .lsfSync => handleLsfSync p s
  | .streamSync => handleResync p .lsf .minus .stream .lsfSync s
  | .packetSync => handleResync p .packet .plus .packet .unlocked s
  | .bertSync => handleResync p .packet .minus .bert .unlocked s
  | .frame => handleFrame p y acc s

/-- Step 6: the deviation unit takes the sample at the sampling point. -/
def demDevSample (p : Params) (y : RealVal) (s : State) : State :=
  if s.dem.state ≠ .unlocked ∧ corIndex s.cor = s.dem.sampleIndex then { s with dev := p.devEst.sample s.dev y } else s

/-- Steps 3 to 7 on a filtered sample. -/
def demReceive (p : Params) (y : RealVal) (acc : Bool) (s : State) : State :=
  let s := { s with cor := corSample p y s.cor }
  let s := if corIndex s.cor = 0 then clockHousekeeping s else s
  let s := { s with clk := clkSample y s.clk }
  demHandler p y acc (demDevSample p y s)

/-- `dcd_on()` of rule R277. -/
def dcdOn (p : Params) (s : State) : State :=
  diagEmit
    { s with
      dev := devReset p
      frm := frmReset s.frm
      fd := fdReset s.fd
      dem := { s.dem with
        dcd := true, needClockReset := true, syncCount := 0, missingSyncCount := 0, costCount := 0 } }

/-- `dcd_off()` of rule R277. -/
def dcdOff (s : State) : State :=
  diagEmit
    { s with
      fd := fdReset s.fd
      dem := { s.dem with dcd := false, state := .unlocked, missingSyncCount := 0, costCount := 0 } }

/-- `dcd_poll()` of rule R276. -/
def dcdPoll (p : Params) (s : State) : State :=
  if s.dem.pollCount + 1 = p.dcdPoll then
    let dcd := dcdUpdate p s.dcd
    let s := { s with dcd := dcd, dem := { s.dem with pollCount := 0 } }
    if !s.dem.dcd && dcd.locked then dcdOn p s
    else if s.dem.dcd && !dcd.locked then dcdOff s
    else s
  else { s with dem := { s.dem with pollCount := s.dem.pollCount + 1 } }

/-- `diag_tick()` of rule R300. -/
def diagTick (p : Params) (s : State) : State :=
  if s.dem.diagCount + 1 = p.diagCadence then diagEmit { s with dem := { s.dem with diagCount := 0 } }
  else { s with dem := { s.dem with diagCount := s.dem.diagCount + 1 } }

/-- Steps 1 to 9 of rule R271. -/
def demSample (p : Params) (acc : Bool) (x : RealVal) (s : State) : State :=
  let mf := mfShift p x s.dem.mf
  let s := { s with dcd := dcdSample p x s.dcd, dem := { s.dem with mf := mf } }
  let s := if p.gateOnDcd && !s.dem.dcd then s else demReceive p (mfOutput p mf) acc s
  diagTick p (dcdPoll p s)

/-- The response word of DEM_SAMPLE: state and carrier decision after the step (rule R271). -/
def demResponse (s : State) : State :=
  respond 0x90 statusOk [wordOfFields [field 0 3 (demodCode s.dem.state), field 8 1 s.dem.dcd.toNat]] s

/-- DEM_SAMPLE, rule R271. -/
def execDemSampleFor (p : Params) (accept : Bool) (x : Word32) (s : State) : Result :=
  withSample x (commandWord (.demSample accept x)) s fun r => demResponse (demSample p accept r s)

/-- DEM_SAMPLE with the parameters M17CORE takes. -/
def execDemSample (accept : Bool) (x : Word32) (s : State) : Result :=
  execDemSampleFor m17core accept x s

end Sys2Proof.Machine
end

