-- ==== Sys2Proof/Machine/Encode.lean ====
section
/-! DEFINITION. The encode path (spec/49_encode_path.md). -/

namespace Sys2Proof.Machine

open Sys2Proof

/-- The last two stages of every frame, in the order of rule R312. -/
def finishFrame (p : Params) (bits : List Bool) : List Bool :=
  randomize p.randSeq (interleave false bits)

/-- `enc_lsf(L)` of rule R306. -/
def encLsf (p : Params) (lsf : List Byte) : List Bool :=
  finishFrame p (puncture (convEncode (bitsOfBytes lsf)) (p.mask .p1) 368)

/-- The 24 bits of the codeword of 12 data bits, most significant first (rule R307). -/
def golayBits (d : List Bool) : List Bool :=
  bitsOf (golayEnc24 (BitVec.ofNat 12 (natOfBits d)))

/-- `enc_lich(F, n)` of rule R307: the sixth byte is `n << 5`. -/
def encLich (frag : List Byte) (n : BitVec 3) : List Bool :=
  (chunks 12 (bitsOfBytes (frag ++ [n.setWidth 8 <<< 5]))).flatMap golayBits

/-- `enc_stream(Y, S)` of rule R308. -/
def encStream (p : Params) (lich pay : List Byte) : List Bool :=
  finishFrame p (bitsOfBytes lich ++ puncture (convEncode (bitsOfBytes pay)) (p.mask .p2) 272)

/-- `enc_packet(P)` of rule R309: 206 bits are sent. -/
def encPacket (p : Params) (pkt : List Byte) : List Bool :=
  finishFrame p (puncture (convEncode ((bitsOfBytes pkt).take 206)) (p.mask .p3) 368)

/-- `enc_bert(T)` of rule R310: 197 bits are sent; the capacity drops the last kept coded bit. -/
def encBert (p : Params) (t : List Byte) : List Bool :=
  finishFrame p (puncture (convEncode ((bitsOfBytes t).take 197)) (p.mask .p2) 368)

/-- The response of an ENC operation; the convolutional encoder is left at 0 (rule R32). -/
def respondFrame (op : BitVec 8) (bits : List Bool) (s : State) : State :=
  respond op statusOk (packBits bits) { s with cnvMem := 0 }

/-- ENC_LSF, rule R306. -/
def execEncLsfFor (p : Params) (bytes : List Byte) (s : State) : Result :=
  .next (respondFrame 0xA0 (encLsf p bytes) s)

/-- ENC_LSF with the parameters M17CORE takes. -/
def execEncLsf (bytes : List Byte) (s : State) : Result :=
  execEncLsfFor m17core bytes s

/-- ENC_LICH, rule R307: no convolutional code is used; index 6 and 7 are BAD_ARG. -/
def execEncLich (index : BitVec 3) (bytes : List Byte) (s : State) : Result :=
  if index.toNat ≤ 5 then .next (respond 0xA1 statusOk (packBits (encLich bytes index)) s)
  else .next (takeFault .badArg (commandWord (.encLich index bytes)) s)

/-- ENC_STREAM, rule R308: twelve LICH bytes, then eighteen payload bytes. -/
def execEncStreamFor (p : Params) (bytes : List Byte) (s : State) : Result :=
  .next (respondFrame 0xA2 (encStream p (bytes.take 12) (bytes.drop 12)) s)

/-- ENC_STREAM with the parameters M17CORE takes. -/
def execEncStream (bytes : List Byte) (s : State) : Result :=
  execEncStreamFor m17core bytes s

/-- ENC_PACKET, rule R309. -/
def execEncPacketFor (p : Params) (bytes : List Byte) (s : State) : Result :=
  .next (respondFrame 0xA3 (encPacket p bytes) s)

/-- ENC_PACKET with the parameters M17CORE takes. -/
def execEncPacket (bytes : List Byte) (s : State) : Result :=
  execEncPacketFor m17core bytes s

/-- ENC_BERT, rule R310. -/
def execEncBertFor (p : Params) (bytes : List Byte) (s : State) : Result :=
  .next (respondFrame 0xA4 (encBert p bytes) s)

/-- ENC_BERT with the parameters M17CORE takes. -/
def execEncBert (bytes : List Byte) (s : State) : Result :=
  execEncBertFor m17core bytes s

end Sys2Proof.Machine
end

