-- ==== Sys2Proof/Machine/System.lean ====
section
/-! DEFINITION. NOP, STATUS, SET_CFG (spec/60_exceptions.md) and RESET (spec/70_reset_and_hazards.md). -/

namespace Sys2Proof.Machine

open Sys2Proof

/-- NOP, rule R334. -/
def execNop (s : State) : Result :=
  .next (respond 0x00 statusOk [] s)

/-- RESET, rule R347: the response is appended after the state change. -/
def execResetFor (p : Params) (s : State) : Result :=
  .next (respond 0x01 statusOk [] (s.resetRegisters p))

/-- RESET with the parameters M17CORE takes. -/
def execReset (s : State) : Result :=
  execResetFor m17core s

/-- STATUS, rule R335. -/
def execStatus (s : State) : Result :=
  .next (respond 0x02 statusOk (statusWords s) s)

/-- SET_CFG, rule R336: both fields are written. -/
def execSetCfg (polarityNeg diagEnable : Bool) (s : State) : Result :=
  .next (respond 0x03 statusOk [] { s with cfg := { polarityNeg := polarityNeg, diagEnable := diagEnable } })

end Sys2Proof.Machine
end

