-- ==== Sys2Proof/Machine/Dispatch.lean ====
section
/-! DEFINITION. One arm per operation of spec/30_encoding.md rule R90. -/

namespace Sys2Proof.Machine

open Sys2Proof

def exec (i : Instr) (s : State) : Host.Outcome State Fault Refusal :=
  match i with
  | .nop => Sys2Proof.Machine.execNop s
  | .reset => Sys2Proof.Machine.execReset s
  | .status => Sys2Proof.Machine.execStatus s
  | .setCfg polarityNeg diagEnable => Sys2Proof.Machine.execSetCfg polarityNeg diagEnable s
  | .crcReset => Sys2Proof.Machine.execCrcReset s
  | .crcUpdate b => Sys2Proof.Machine.execCrcUpdate b s
  | .crcUpdaten bytes => Sys2Proof.Machine.execCrcUpdaten bytes s
  | .crcFinal => Sys2Proof.Machine.execCrcFinal s
  | .crcBytes => Sys2Proof.Machine.execCrcBytes s
  | .golayEnc d => Sys2Proof.Machine.execGolayEnc d s
  | .golayDec w => Sys2Proof.Machine.execGolayDec w s
  | .convEnc x => Sys2Proof.Machine.execConvEnc x s
  | .puncture mask nOut x => Sys2Proof.Machine.execPuncture mask nOut x s
  | .depuncture mask nOut y => Sys2Proof.Machine.execDepuncture mask nOut y s
  | .llrMap x => Sys2Proof.Machine.execLlrMap x s
  | .vitDecode nOut l => Sys2Proof.Machine.execVitDecode nOut l s
  | .interleave x => Sys2Proof.Machine.execInterleave x s
  | .deinterleave y => Sys2Proof.Machine.execDeinterleave y s
  | .randomize x => Sys2Proof.Machine.execRandomize x s
  | .derandomize l => Sys2Proof.Machine.execDerandomize l s
  | .corSample x => Sys2Proof.Machine.execCorSample x s
  | .corCorrelate sel => Sys2Proof.Machine.execCorCorrelate sel s
  | .syncTriggered sel => Sys2Proof.Machine.execSyncTriggered sel s
  | .syncStep sel => Sys2Proof.Machine.execSyncStep sel s
  | .syncUpdated sel => Sys2Proof.Machine.execSyncUpdated sel s
  | .dcdSample x => Sys2Proof.Machine.execDcdSample x s
  | .dcdUpdate => Sys2Proof.Machine.execDcdUpdate s
  | .clkSample x => Sys2Proof.Machine.execClkSample x s
  | .clkUpdate => Sys2Proof.Machine.execClkUpdate s
  | .clkReset => Sys2Proof.Machine.execClkReset s
  | .frmPush a b => Sys2Proof.Machine.execFrmPush a b s
  | .frmReset => Sys2Proof.Machine.execFrmReset s
  | .fdDecode accept sync f => Sys2Proof.Machine.execFdDecode accept sync f s
  | .fdReset => Sys2Proof.Machine.execFdReset s
  | .demSample accept x => Sys2Proof.Machine.execDemSample accept x s
  | .encLsf bytes => Sys2Proof.Machine.execEncLsf bytes s
  | .encLich index bytes => Sys2Proof.Machine.execEncLich index bytes s
  | .encStream bytes => Sys2Proof.Machine.execEncStream bytes s
  | .encPacket bytes => Sys2Proof.Machine.execEncPacket bytes s
  | .encBert bytes => Sys2Proof.Machine.execEncBert bytes s

end Sys2Proof.Machine
end

