-- ==== Sys2Proof/Machine/Command.lean ====
section
/-! DEFINITION. One operation of the command stream, for any values of the OPEN parameters and any meaning `ex` of the
instructions (spec/20_memory.md rules R60, R66): executed, rejected, not yet complete, or cut short by a hard reset
(spec/70_reset_and_hazards.md rule R346). -/

namespace Sys2Proof.Machine

open Sys2Proof

/-- A hard reset stands in the inputs of a halted or waiting core: `s` after it, with the words before it discarded. -/
def resetOr (p : Params) (otherwise : Result) (s : State) : Result :=
  match afterHardReset s.input with
  | some rest => .next (s.hardReset p rest)
  | none => otherwise

/-- The operation at the head of the command stream: executed, faulted, or not yet complete; then the core waits, and a
hard reset among its words abandons it (rule R346). -/
def runCommand (p : Params) (ex : Instr → State → Result) (s : State) : Result :=
  match decode (pendingWords s.input) with
  | .instr i n => ex i (s.consume n)
  | .reject c w => .next (takeFault c w (s.consume 1))
  | .incomplete => resetOr p (.next s) s

/-- The hard reset arrives during the operation that follows: its first `events` event records stand, nothing else of
it does, and the words after it are the new command stream.  When the words that follow are not yet a whole operation,
no record of it exists and all of them are unread words of the old stream (rule R346). -/
def runInterrupted (p : Params) (ex : Instr → State → Result) (events : Nat) (s : State) : Result :=
  match decode (pendingWords s.input) with
  | .incomplete => .next (s.hardReset p (s.input.drop (pendingWords s.input).length))
  | _ =>
    match runCommand p ex s with
    | .next t =>
      .next (State.hardReset p t.input
        { s with rsp := s.rsp ++ eventsBeforeReset events (t.rsp.drop s.rsp.length) })
    | other => other

/-- One step.  A halted core does nothing until a hard reset (spec/60_exceptions.md rules R322, R328). -/
def stepWith (p : Params) (ex : Instr → State → Result) (s : State) : Result :=
  if s.faulted then resetOr p (.fault .halted) s
  else
    match s.input with
    | .hardResetDuring events :: rest => runInterrupted p ex events { s with input := rest }
    | _ => runCommand p ex s

end Sys2Proof.Machine
end

