-- ==== Sys2Proof/Machine/Parametric.lean ====
section
/-! DEFINITION. Every operation, and the step, with the OPEN parameters of spec/00_scope.md rule R11 as an argument.  `exec`
and `step` are the instances with `m17core`. -/

namespace Sys2Proof.Machine

open Sys2Proof

/-- The meaning of an instruction for any values of the OPEN parameters; an operation that uses none has one meaning. -/
def execFor (p : Params) (i : Instr) (s : State) : Result :=
  match i with
  | .nop => execNop s
  | .reset => execResetFor p s
  | .status => execStatus s
  | .setCfg polarityNeg diagEnable => execSetCfg polarityNeg diagEnable s
  | .crcReset => execCrcReset s
  | .crcUpdate b => execCrcUpdate b s
  | .crcUpdaten bytes => execCrcUpdaten bytes s
  | .crcFinal => execCrcFinal s
  | .crcBytes => execCrcBytes s
  | .golayEnc d => execGolayEnc d s
  | .golayDec w => execGolayDec w s
  | .convEnc x => execConvEnc x s
  | .puncture mask nOut x => execPunctureFor p mask nOut x s
  | .depuncture mask nOut y => execDepunctureFor p mask nOut y s
  | .llrMap x => execLlrMapFor p x s
  | .vitDecode nOut l => execVitDecode nOut l s
  | .interleave x => execInterleave x s
  | .deinterleave y => execDeinterleave y s
  | .randomize x => execRandomizeFor p x s
  | .derandomize l => execDerandomizeFor p l s
  | .corSample x => execCorSampleFor p x s
  | .corCorrelate sel => execCorCorrelateFor p sel s
  | .syncTriggered sel => execSyncTriggeredFor p sel s
  | .syncStep sel => execSyncStepFor p sel s
  | .syncUpdated sel => execSyncUpdated sel s
  | .dcdSample x => execDcdSampleFor p x s
  | .dcdUpdate => execDcdUpdateFor p s
  | .clkSample x => execClkSample x s
  | .clkUpdate => execClkUpdate s
  | .clkReset => execClkReset s
  | .frmPush a b => execFrmPush a b s
  | .frmReset => execFrmReset s
  | .fdDecode accept sync f => execFdDecodeFor p accept sync f s
  | .fdReset => execFdReset s
  | .demSample accept x => execDemSampleFor p accept x s
  | .encLsf bytes => execEncLsfFor p bytes s
  | .encLich index bytes => execEncLich index bytes s
  | .encStream bytes => execEncStreamFor p bytes s
  | .encPacket bytes => execEncPacketFor p bytes s
  | .encBert bytes => execEncBertFor p bytes s

/-- One step for any values of the OPEN parameters; the state after reset for them is `State.resetFor p`. -/
def stepFor (p : Params) (s : State) : Result :=
  stepWith p (execFor p) s

end Sys2Proof.Machine
end

