-- ==== Sys2Proof/Machine/Step.lean ====
section
/-! DEFINITION. One step of the core with the parameters M17CORE takes (Machine/Command.lean says what a step does), and
the placing of one instruction where it is read next. -/

namespace Sys2Proof.Machine

open Sys2Proof

/-- One step. -/
def step (s : State) : Host.Outcome State Fault Refusal :=
  stepWith m17core exec s

/-- `s` with the words of one instruction (the bits of `w` from `nbits` up are 0) at the head of the command stream, and
the core not halted (log entry 11). -/
def State.withFetchWord (s : State) (nbits w : Nat) : State :=
  { s with
    input := (tableWords nbits w).map .word ++ s.input
    core := { s.core with faultCode := 0 } }

end Sys2Proof.Machine
end

