-- ==== Sys2Proof/Safety.lean ====
section
/-! DEFINITION. The terms in which statements speak of M17CORE: the invariants of the state (spec/48_demodulator.md rule
R303, spec/47_framer_framedecoder.md rules R236 and R263, spec/46_clock_recovery_estimators.md rule R223, spec/10_state.md
rules R28 and R32), whole records of the response stream (spec/30_encoding.md rule R85), paths through the trellis
(spec/43_viterbi.md rule R167), and sequences of operations. -/

namespace Sys2Proof.Machine

open Sys2Proof

/-! ### Invariants -/

/-- The three re-sync states of spec/48_demodulator.md rule R285. -/
def isResync : DemodState → Bool
  | .streamSync => true
  | .packetSync => true
  | .bertSync => true
  | _ => false

/-- The latch holds no fault or one of the three codes of spec/60_exceptions.md rule R321. -/
def latchOk (c : CoreRegs) : Bool :=
  c.faultCode = 0 || c.faultCode = 0x80 || c.faultCode = 0x81 || c.faultCode = 0x82

/-- The shape of the Viterbi scratch (spec/10_state.md rule R33). -/
def Vit.shapeOk (v : Vit) : Bool :=
  v.pm.length = 16 && v.cm.length = 16 && v.hist.length = Config.VIT_HIST && v.hist.all fun row => row.length = 16

/-- The write position follows the newest sample, or no sample has arrived since reset (spec/45_correlator_sync_dcd.md
rule R192); the level is never negative (rule R193) and is the filter's state. -/
def Cor.ok (c : Cor) : Bool :=
  (c.pos = ring (c.prevPos.val + 1) || (c.pos = 0 && c.prevPos = 0)) && decide (0 ≤ c.limit) && c.lpf = c.limit

/-- An open window holds a value other than 0, so its peak has a sign (spec/45_correlator_sync_dcd.md rule R203). -/
def Syn.ok (y : Syn) : Bool :=
  !y.triggered || y.samples.toList.any fun v => v ≠ 0

/-- One sliding-DFT bin: the delay line keeps its length and the index lies within it (spec/45_correlator_sync_dcd.md
rule R206). -/
def Sdft.ok (n : Nat) (b : Sdft) : Bool :=
  b.delay.length = n && decide (b.j < n)

/-- Powers and their ratio are never negative (spec/45_correlator_sync_dcd.md rules R209, R210). -/
def Dcd.ok (p : Params) (d : Dcd) : Bool :=
  d.sdftIn.ok p.dcdN && d.sdftOut.ok p.dcdN && decide (0 ≤ d.accIn) && decide (0 ≤ d.accOut) && decide (0 ≤ d.level)

/-- The clock estimate stays within 0.05 % of 1 (spec/46_clock_recovery_estimators.md rule R223); the chosen index is
the last update's; before the seeding update nothing is counted (rule R221). -/
def Clk.ok (c : Clk) : Bool :=
  decide (1 - Config.CLK_MAX_DRIFT ≤ c.clock) && decide (c.clock ≤ 1 + Config.CLK_MAX_DRIFT) &&
    c.sampleIndex = c.prevSampleIndex &&
    (c.seeded || (c.offsetTotal = 0 && c.sampleCount = 0 && c.clock = 1))

/-- The count is even and a frame is never held complete; every element is an LLR (spec/47_framer_framedecoder.md rule
R236, spec/10_state.md rule R28). -/
def Frm.ok (f : Frm) : Bool :=
  f.count % 2 = 0 && decide (f.count < Config.FRAME_LLRS) &&
    f.buf.toList.all fun l => decide (l.natAbs ≤ Config.LLR_MAX)

/-- The largest path cost, that of 244 steps (spec/43_viterbi.md rule R165). -/
def maxCost : Nat := 976

/-- The bounds of the demodulator's counters at an operation boundary (spec/48_demodulator.md rule R303; spec/10_state.md
rule R28). -/
def Dem.ok (p : Params) (d : Dem) : Bool :=
  decide (d.missingSyncCount ≤ Config.PREAMBLE_SEARCH) &&
    (d.state = .unlocked || decide (d.missingSyncCount < Config.LSF_MISS_LIMIT)) &&
    decide (d.syncCount ≤ Config.SYNC_DWELL_MAX + 1) &&
    (!isResync d.state || decide (d.syncCount ≤ Config.SYNC_DWELL_MAX)) &&
    decide (d.costCount ≤ Config.STRIKE_LIMIT) && decide (d.viterbiCost ≤ maxCost) &&
    decide (d.pollCount < p.dcdPoll) && decide (d.diagCount < p.diagCadence) && d.mf.length = p.mfTaps.length

/-- The invariant that reset establishes and every step keeps. -/
structure State.Inv (s : State) : Prop where
  latch : latchOk s.core = true
  /-- The encoder is at 0 at every operation boundary (spec/10_state.md rule R32). -/
  encoder : s.cnvMem = 0
  scratch : s.vit.shapeOk = true
  correlator : s.cor.ok = true
  detectors : ∀ w, (s.syn w).ok = true
  carrier : s.dcd.ok m17core = true
  clock : s.clk.ok = true
  /-- The identity estimator never moves (spec/46_clock_recovery_estimators.md rule R228; log entry 6). -/
  estimators : s.dev = devReset m17core
  framer : s.frm.ok = true
  decoder : s.fd.cost ≤ maxCost
  demodulator : s.dem.ok m17core = true

/-! ### Records of the response stream -/

/-- The words are whole records, one after the other (spec/30_encoding.md rule R85); `fuel` is at least the number of
records. -/
def wholeRecordsAux : Nat → List Word32 → Bool
  | _, [] => true
  | 0, _ :: _ => false
  | fuel + 1, h :: ws =>
    let len := (h.extractLsb' 0 16).toNat
    decide (len ≤ ws.length) && wholeRecordsAux fuel (ws.drop len)

def wholeRecords (ws : List Word32) : Bool :=
  wholeRecordsAux ws.length ws

/-- One record: `rop`, `status` and the payload words. -/
structure Record where
  rop     : BitVec 8
  status  : BitVec 8
  payload : List Word32
deriving DecidableEq, Repr

def Record.words (r : Record) : List Word32 :=
  recordWords r.rop r.status r.payload

/-- An event record: a decoded frame or a diagnostics event (spec/30_encoding.md rules R87, R88). -/
def Record.isEvent (r : Record) : Bool :=
  r.rop = 0xF0 || r.rop = 0xF1

/-! ### The operation map and the checks of a command word -/

/-- The `op` and the mask of every row of the operation map (spec/30_encoding.md rule R90). -/
def operationMap : List (BitVec 8 × Word32) :=
  [ (0x00, 0xFFFFFFFF), (0x01, 0xFFFFFFFF), (0x02, 0xFFFFFFFF), (0x03, 0xFFFFFFFC), (0x10, 0xFFFFFFFF),
    (0x11, 0xFFFFFF00), (0x12, 0xFFFF0000), (0x13, 0xFFFFFFFF), (0x14, 0xFFFFFFFF), (0x20, 0xFFFFF000),
    (0x21, 0xFF000000), (0x30, 0xFFFFFE00), (0x31, 0xFFC00000), (0x32, 0xFFC00000), (0x33, 0xFFFFFFFF),
    (0x40, 0xFFF00000), (0x50, 0xFFFFFFFE), (0x51, 0xFFFFFFFE), (0x52, 0xFFFFFFFF), (0x53, 0xFFFFFFFF),
    (0x60, 0xFFFFFFFF), (0x61, 0xFFFFFFFC), (0x62, 0xFFFFFFFC), (0x63, 0xFFFFFFFC), (0x64, 0xFFFFFFFC),
    (0x68, 0xFFFFFFFF), (0x69, 0xFFFFFFFF), (0x70, 0xFFFFFFFF), (0x71, 0xFFFFFFFF), (0x72, 0xFFFFFFFF),
    (0x80, 0xFFFF0000), (0x81, 0xFFFFFFFF), (0x88, 0xFFFFFEFC), (0x89, 0xFFFFFFFF), (0x90, 0xFFFFFEFF),
    (0xA0, 0xFFFFFFFF), (0xA1, 0xFFFFFFF8), (0xA2, 0xFFFFFFFF), (0xA3, 0xFFFFFFFF), (0xA4, 0xFFFFFFFF) ]

/-- The row a word selects (spec/30_encoding.md rule R90): its `op` is the row's and no bit inside the mask but the `op` is
1. -/
def selectsRow (w : Word32) (row : BitVec 8 × Word32) : Bool :=
  opOf w = row.1 && w &&& row.2 = row.1 ++ (0 : BitVec 24)

/-- The legal field values (spec/30_encoding.md rule R95) of a command word that selects a row. -/
def fieldsLegal (w : Word32) : Bool :=
  let n := (w.extractLsb' 10 10).toNat
  let m := (w.extractLsb' 0 10).toNat
  let punctureOk : Bool := w.extractLsb' 20 2 ≠ 0 && n ≤ 488 && m ≤ 488
  let selOk : Bool := w.extractLsb' 0 2 ≠ 3
  match (opOf w).toNat with
  | 0x12 => w.extractLsb' 0 16 ≠ 0
  | 0x30 => (w.extractLsb' 0 9).toNat ≤ 240
  | 0x31 => punctureOk
  | 0x32 => punctureOk
  | 0x40 => n % 2 = 0 && 2 ≤ n && n ≤ 488 && 2 * m ≤ n
  | 0x61 => selOk
  | 0x62 => selOk
  | 0x63 => selOk
  | 0x64 => selOk
  | 0xA1 => (w.extractLsb' 0 3).toNat ≤ 5
  | _ => true

/-- `plen(op, arg)` (spec/30_encoding.md rule R82). -/
def payloadLength (w : Word32) : Nat :=
  let n := (w.extractLsb' 10 10).toNat
  match (opOf w).toNat with
  | 0x12 => ((w.extractLsb' 0 16).toNat + 3) / 4
  | 0x30 => ((w.extractLsb' 0 9).toNat + 31) / 32
  | 0x31 => (n + 31) / 32
  | 0x32 => (n + 3) / 4
  | 0x33 => 1
  | 0x40 => (n + 3) / 4
  | 0x50 => if w.getLsbD 0 then 92 else 12
  | 0x51 => if w.getLsbD 0 then 92 else 12
  | 0x52 => 12
  | 0x53 => 92
  | 0x60 => 1
  | 0x68 => 1
  | 0x70 => 1
  | 0x88 => 92
  | 0x90 => 1
  | 0xA0 => 8
  | 0xA1 => 2
  | 0xA2 => 8
  | 0xA3 => 7
  | 0xA4 => 7
  | _ => 0

/-! ### Operand ranges -/

/-- The elements of kind `llr` of an operation, the fields of FRM_PUSH among them (spec/60_exceptions.md rule R325). -/
def llrOperand : Instr → List Byte
  | .depuncture _ _ y => y
  | .vitDecode _ l => l
  | .interleave (.llrs l) => l
  | .deinterleave (.llrs l) => l
  | .derandomize l => l
  | .frmPush a b => [a, b]
  | .fdDecode _ _ f => f
  | _ => []

/-- The element of kind `f32` of an operation (spec/60_exceptions.md rule R326). -/
def sampleOperand : Instr → Option Word32
  | .llrMap x => some x
  | .corSample x => some x
  | .dcdSample x => some x
  | .clkSample x => some x
  | .demSample _ x => some x
  | _ => none

/-- The byte lies within `-LLR_MAX .. +LLR_MAX`. -/
abbrev inLlrRange (b : Byte) : Prop :=
  -7 ≤ b.toInt ∧ b.toInt ≤ 7

/-- The exponent field of a binary32 word is all ones: an infinity or a NaN. -/
abbrev notFinite (x : Word32) : Prop :=
  x.extractLsb' 23 8 = 0xFF

/-! ### Paths through the trellis -/

/-- The metric of the path from state `ps` with the input bits `bs` on the LLR pairs `l`: the sum of the branch costs
(spec/43_viterbi.md rule R167). -/
def pathMetricOf : BitVec 4 → List Bool → List Llr → Nat
  | ps, b :: bs, l0 :: l1 :: ls => branchCost ps b l0 l1 + pathMetricOf (vitNext ps b) bs ls
  | _, _, _ => 0

/-- Every element is an LLR (spec/00_scope.md rule R16). -/
abbrev LlrList (l : List Llr) : Prop :=
  ∀ v ∈ l, v.natAbs ≤ Config.LLR_MAX

/-! ### A CRC with any polynomial and seed -/

/-- One shift of the register form of spec/40_crc16.md rule R112, for the polynomial `poly`. -/
def crcShiftWith (poly reg : BitVec 16) (b : Bool) : BitVec 16 :=
  ((reg <<< 1) ||| BitVec.ofNat 16 b.toNat) ^^^ (if reg.getLsbD 15 then poly else 0)

/-- The checksum of spec/40_crc16.md rule R118 for any polynomial and seed: the message bits, then sixteen zero bits. -/
def crcValue (poly seed : BitVec 16) (bytes : List Byte) : BitVec 16 :=
  (bitsOfBytes bytes ++ List.replicate 16 false).foldl (crcShiftWith poly) seed

/-! ### Sequences of operations -/

/-- Several operations one after the other, each on the state the one before left; the first stop ends the run. -/
def execAll : List Instr → State → Result
  | [], s => .next s
  | i :: is, s =>
    match exec i s with
    | .next t => execAll is t
    | .fault r => .fault r
    | .refused r => .refused r

/-! ### The operations that share nothing with DEM_SAMPLE -/

/-- spec/70_reset_and_hazards.md rule R356: safe at any time. -/
def operationSharesNothing : Instr → Bool
  | .nop => true
  | .status => true
  | .crcReset => true
  | .crcUpdate _ => true
  | .crcUpdaten _ => true
  | .crcFinal => true
  | .crcBytes => true
  | .golayEnc _ => true
  | .golayDec _ => true
  | .convEnc _ => true
  | .puncture _ _ _ => true
  | .depuncture _ _ _ => true
  | .llrMap _ => true
  | .vitDecode _ _ => true
  | .interleave _ => true
  | .deinterleave _ => true
  | .randomize _ => true
  | .derandomize _ => true
  | .encLsf _ => true
  | .encLich _ _ => true
  | .encStream _ => true
  | .encPacket _ => true
  | .encBert _ => true
  | .reset => false
  | .setCfg _ _ => false
  | .corSample _ => false
  | .corCorrelate _ => false
  | .syncTriggered _ => false
  | .syncStep _ => false
  | .syncUpdated _ => false
  | .dcdSample _ => false
  | .dcdUpdate => false
  | .clkSample _ => false
  | .clkUpdate => false
  | .clkReset => false
  | .frmPush _ _ => false
  | .frmReset => false
  | .fdDecode _ _ _ => false
  | .fdReset => false
  | .demSample _ _ => false

end Sys2Proof.Machine
end

