-- ==== Sys2Proof/Certificates/Slice0/Obligations.lean ====
section
/-! DEFINITION. The statements for the provers, in the order of spec/: the command stream and faults, reset, the bit-exact
units, the sample-domain units, the framer and the frame decoder, the demodulator, the encode path.  Where a statement
rests on a value the model chose, its docstring names the log entry. -/

open Sys2Proof Sys2Proof.Machine

/-! ## Encoding -/

/-- Rules R80, R82, R90: the decoder reads back every well-formed instruction from the words the encoder writes, and takes
exactly those words. -/
def Obligations.DecodeOfEncodeIsInstruction : Prop :=
  ∀ (i : Instr) (rest : List Word32), i.wellFormed = true →
    decode (encode i ++ rest) = .instr i (encode i).length

/-- Rules R81, R83, R84: the other direction.  An instruction the decoder answers is well-formed, its command word is the
word that was read, bit for bit, and the words taken are the command word and `plen` payload words. -/
def Obligations.DecodedInstructionKeepsCommandWord : Prop :=
  ∀ (w : Word32) (ws : List Word32) (i : Instr) (n : Nat), decode (w :: ws) = .instr i n →
    i.wellFormed = true ∧ commandWord i = w ∧ n = 1 + payloadLength w ∧ n ≤ (w :: ws).length

/-- Words written out from the operation map (rule R90) and the formats (rule R83). -/
def Obligations.SampleWordsDecode : Prop :=
  decode [0x03000002] = .instr (.setCfg true false) 1 ∧
  decode [0x110000A5] = .instr (.crcUpdate 0xA5) 1 ∧
  decode [0x12000005, 0x01020304, 0x05FFFFFF] = .instr (.crcUpdaten [1, 2, 3, 4, 5]) 3 ∧
  decode [0x20000ABC] = .instr (.golayEnc 0xABC) 1 ∧
  decode [0x30000003, 0xA0000000] = .instr (.convEnc [true, false, true]) 2 ∧
  decode [0x31200C02, 0xE0000000] = .instr (.puncture .p2 2 [true, true, true]) 2 ∧
  decode [0x40002801, 0x0707F907, 0xF90707F9, 0x07070000] =
    .instr (.vitDecode 1 [0x07, 0x07, 0xF9, 0x07, 0xF9, 0x07, 0x07, 0xF9, 0x07, 0x07]) 4 ∧
  decode [0x64000002] = .instr (.syncUpdated .packet) 1 ∧
  decode [0x8000F907] = .instr (.frmPush 0xF9 0x07) 1 ∧
  decode [0x90000100, 0x3F800000] = .instr (.demSample true 0x3F800000) 2 ∧
  decode [0xA1000004, 0x01020304, 0x05000000] = .instr (.encLich 4 [1, 2, 3, 4, 5]) 3

/-- Rules R82, R90, R91 (a) to (c), R95: what a command word alone says.  It is accepted exactly when it selects a row of
the operation map and its fields are legal, and then its payload has the length of rule R82; otherwise it is rejected,
with ILLEGAL_OP when its `op` is in no row, else with BAD_ARG. -/
def Obligations.CommandWordChecks : Prop :=
  ∀ w : Word32,
    match decodeCommand w with
    | .accept plen _ => (∃ row ∈ operationMap, selectsRow w row = true) ∧ fieldsLegal w = true ∧ plen = payloadLength w
    | .reject .illegalOp => ∀ row ∈ operationMap, row.1 ≠ opOf w
    | .reject .badArg =>
      (∃ row ∈ operationMap, row.1 = opOf w) ∧
        ¬ ((∃ row ∈ operationMap, selectsRow w row = true) ∧ fieldsLegal w = true)
    | .reject .badOperand => False

/-! ## The command stream, faults, the hard reset -/

/-- Rules R22, R60, R66: when a whole instruction stands at the head of the command stream of a core that is not faulted,
the step is that instruction's meaning on the state with its words read and the index of the next command word advanced
past them; and so it is for every value of the OPEN parameters of rule R11.  (That index, `cmdIndex`, is the pc rule R22 lets
a model keep: log entry 12.) -/
def Obligations.StepRunsDecodedInstruction : Prop :=
  ∀ (s : State) (i : Instr) (n : Nat), s.faulted = false → decode (pendingWords s.input) = .instr i n →
    step s = exec i { s with input := s.input.drop n, cmdIndex := s.cmdIndex + n } ∧
    ∀ p : Params, stepFor p s = execFor p i { s with input := s.input.drop n, cmdIndex := s.cmdIndex + n }

/-- Rules R89, R91, R322, R323: a rejected command word changes nothing but the two latch registers; one word is read, the
fault record is appended. -/
def Obligations.RejectedCommandTakesFault : Prop :=
  ∀ (s : State) (w : Word32) (rest : List HostInput) (c : FaultCause), s.faulted = false →
    s.input = .word w :: rest → decode (w :: pendingWords rest) = .reject c w →
    step s = .next { s with
      input := rest
      cmdIndex := s.cmdIndex + 1
      core := { faultCode := faultCodeOf c, faultCmd := w }
      rsp := s.rsp ++ [match c with
        | .illegalOp => 0xFF800001
        | .badArg => 0xFF810001
        | .badOperand => 0xFF820001, w] }

/-- Rules R325, R326: an LLR element outside the symmetric range, or a sample that is an infinity or a NaN, raises
BAD_OPERAND: nothing of the operation happens, the latch is written, the fault record appended.  Every other sample word, a
subnormal or a negative zero too, is an ordinary value: the one that its sign, its exponent `e` and its fraction `f` give as a
binary32 (rule R62), in units of 2^-149 `f` for `e` = 0 and (2^23 + f) * 2^(e - 1) otherwise. -/
def Obligations.BadOperandTakesFault : Prop :=
  (∀ (i : Instr) (s : State), i.wellFormed = true →
    ((∃ b ∈ llrOperand i, ¬ inLlrRange b) ∨ (∃ x ∈ sampleOperand i, notFinite x)) →
    exec i s = .next { s with
      core := { faultCode := 0x82, faultCmd := commandWord i }
      rsp := s.rsp ++ [0xFF820001, commandWord i] }) ∧
  (∀ x : Word32, ¬ notFinite x →
    let e := (x.extractLsb' 23 8).toNat
    let f := (x.extractLsb' 0 23).toNat
    ∃ r : RealVal, realOfF32 x = some r ∧
      r * 2 ^ 149 = (if x.getLsbD 31 then -1 else 1) * ((if e = 0 then f else (2 ^ 23 + f) * 2 ^ (e - 1) : Nat) : RealVal))

/-- Rules R80, R85, R320: every legal command whose operands are in range completes, whatever the state: it appends the
event records it emits and then exactly one response record, that of its own `op`, and raises no fault. -/
def Obligations.LegalCommandAnswersOnce : Prop :=
  ∀ (i : Instr) (s : State), i.wellFormed = true → (∀ b ∈ llrOperand i, inLlrRange b) →
    (∀ x ∈ sampleOperand i, ¬ notFinite x) →
    ∃ (t : State) (events : List Record) (answer : Record),
      exec i s = .next t ∧
      t.rsp = s.rsp ++ events.flatMap Record.words ++ answer.words ∧
      (∀ e ∈ events, e.isEvent = true ∧ e.payload.length ≤ 16) ∧
      answer.rop = opOf (commandWord i) ∧ answer.payload.length ≤ 122 ∧
      (i ≠ .reset → t.core = s.core) ∧ (i = .reset → t.core.faultCode = 0) ∧
      t.input = s.input ∧ t.cmdIndex = s.cmdIndex

/-- Rules R322, R328: a halted core reads nothing and appends nothing; only a hard reset ends the halt.  (That the step of
a halted core is the fault `halted` is log entry 10; the registers rule R55 leaves unspecified take the values of log entry
2.) -/
def Obligations.HaltedCoreWaitsForHardReset : Prop :=
  ∀ s : State, s.faulted = true →
    (afterHardReset s.input = none → step s = .fault .halted) ∧
    (∀ rest, afterHardReset s.input = some rest → step s = .next { State.reset with input := rest, rsp := s.rsp })

/-- Rule R346, between two operations or inside the words of one: the words before the hard reset are discarded, every
register takes its reset value, the latch is cleared, the response stream is kept.  (The registers that rule R55 leaves
unspecified take the values of log entry 2.) -/
def Obligations.HardResetAbandonsCommand : Prop :=
  ∀ (s : State) (ws : List Word32) (rest : List HostInput), s.faulted = false →
    s.input = ws.map HostInput.word ++ .hardReset :: rest → decode ws = .incomplete →
    step s = .next { State.reset with input := rest, rsp := s.rsp }

/-- Rule R346, during an operation, after its first `k` events (log entry 21): those event records stand, nothing else of
the operation does.  (The registers that rule R55 leaves unspecified take the values of log entry 2.) -/
def Obligations.HardResetDuringOperationKeepsEvents : Prop :=
  ∀ (s u : State) (k : Nat) (i : Instr) (rest : List HostInput) (events : List Record) (answer : Record),
    s.faulted = false → i.wellFormed = true →
    s.input = .hardResetDuring k :: ((encode i).map HostInput.word ++ rest) →
    exec i { s with input := rest, cmdIndex := s.cmdIndex + (encode i).length } = .next u →
    u.rsp = s.rsp ++ events.flatMap Record.words ++ answer.words →
    (∀ e ∈ events, e.payload.length < 2 ^ 16) → answer.payload.length < 2 ^ 16 →
    step s = .next { State.reset with input := rest, rsp := s.rsp ++ (events.take k).flatMap Record.words }

/-- Rules R320, R344: every state has a step: a next state for every sequence of words, and the halt of a faulted core is
the only stop (that it is one is log entry 10). -/
def Obligations.StepStopsOnlyWhenHalted : Prop :=
  ∀ s : State, (∃ t, step s = .next t) ∨
    (step s = .fault .halted ∧ s.core.faultCode ≠ 0 ∧ afterHardReset s.input = none)

/-- Rules R60, R85, R346: the response stream is only appended to, and a record is appended whole or not at all. -/
def Obligations.StepAppendsWholeRecords : Prop :=
  ∀ s t : State, step s = .next t → s.rsp <+: t.rsp ∧ (wholeRecords s.rsp = true → wholeRecords t.rsp = true)

/-- The invariant of the state is kept by every step, from every state that has it (rules R303, R263 (b), R223, R221,
R236, R203, R32, R28; the clause on the estimators is log entry 6, that on the level filter's state log entry 20). -/
def Obligations.StepKeepsInvariant : Prop :=
  ∀ s t : State, s.Inv → step s = .next t → t.Inv

/-- The invariant holds after reset.  (The shapes of the Viterbi scratch and of the frame buffer are those of log entry 2.) -/
def Obligations.ResetHasInvariant : Prop :=
  State.reset.Inv

/-! ## Reset values and the system operations -/

/-- Rule R55, every register whose reset value is stated or decided there, in its order. -/
def Obligations.ResetValuesOfTheTable : Prop :=
  let s := State.reset
  s.core = { faultCode := 0, faultCmd := 0 } ∧ s.cfg = { polarityNeg := false, diagEnable := false } ∧
  s.crc = 0x36E6 ∧ s.cnvMem = 0 ∧
  (∀ k : Fin 80, s.cor.buf[k] = 0) ∧ s.cor.limit = 2 ∧ s.cor.pos = 0 ∧ s.cor.prevPos = 0 ∧ s.cor.lpf = m17core.limitState ∧
  (∀ w, (∀ k : Fin 10, (s.syn w).samples[k] = 0) ∧ (s.syn w).triggered = false ∧ (s.syn w).timingIndex = 0 ∧
    (s.syn w).updated = .zero) ∧
  (∀ b ∈ [s.dcd.sdftIn, s.dcd.sdftOut], b.re = 0 ∧ b.im = 0 ∧ b.j = 0 ∧ (∀ x ∈ b.delay, x = 0) ∧
    b.delay.length = m17core.dcdN) ∧
  s.dcd.accIn = 0 ∧ s.dcd.accOut = 0 ∧ s.dcd.level = 0 ∧ s.dcd.locked = false ∧
  (∀ k : Fin 10, s.clk.est[k] = 0) ∧ s.clk.prevSample = 0 ∧ s.clk.offsetTotal = 0 ∧ s.clk.idx = 0 ∧
  s.clk.sampleIndex = 0 ∧ s.clk.prevSampleIndex = 0 ∧ s.clk.sampleCount = 0 ∧ s.clk.seeded = false ∧ s.clk.clock = 1 ∧
  s.dev.offset = 0 ∧ s.dev.deviation = 0 ∧ s.dev.error = 0 ∧ s.dev.idev = 1 ∧ s.frm.count = 0 ∧
  s.fd.state = .lsf ∧ s.fd.lichMask = 0 ∧ (∀ k : Fin 30, s.fd.lsf[k] = 0) ∧ s.fd.cost = 0 ∧
  s.dem.state = .unlocked ∧ s.dem.syncWordType = .lsf ∧ s.dem.sampleIndex = 0 ∧ s.dem.syncSampleIndex = 0 ∧
  s.dem.missingSyncCount = 0 ∧ s.dem.syncCount = 0 ∧ s.dem.costCount = 0 ∧ s.dem.viterbiCost = 0 ∧
  s.dem.dcd = false ∧ s.dem.needClockReset = false ∧ s.dem.needClockUpdate = false ∧
  s.dem.pollCount = 0 ∧ s.dem.diagCount = 0 ∧ (∀ x ∈ s.dem.mf, x = 0)

/-- Rules R334 and R336: NOP changes nothing, SET_CFG writes both fields and nothing else; both answer with one word; a 1
in a bit the operation reserves is BAD_ARG. -/
def Obligations.NopAndSetCfgWriteWhatTheySay : Prop :=
  (∀ s : State, exec .nop s = .next { s with rsp := s.rsp ++ [0x00000000] }) ∧
  (∀ (s : State) (p d : Bool),
    exec (.setCfg p d) s =
      .next { s with cfg := { polarityNeg := p, diagEnable := d }, rsp := s.rsp ++ [0x03000000] }) ∧
  (∀ arg : BitVec 24, decode [0x00#8 ++ arg] =
    if arg = 0 then .instr .nop 1 else .reject .badArg (0x00#8 ++ arg)) ∧
  (∀ arg : BitVec 24, decode [0x03#8 ++ arg] =
    if arg.extractLsb' 2 22 = 0 then .instr (.setCfg (arg.getLsbD 1) (arg.getLsbD 0)) 1
    else .reject .badArg (0x03#8 ++ arg))

/-- Rule R347: RESET puts every register into the reset state, goes on with the same command stream and answers after the
change.  The registers that rule R55 leaves unspecified may be anything. -/
def Obligations.ResetOperationResetsEveryRegister : Prop :=
  (∀ s : State, ∃ t : State, exec .reset s = .next t ∧
    t = { State.reset with
      input := s.input, cmdIndex := s.cmdIndex, rsp := s.rsp ++ [0x01000000], vit := t.vit
      frm := { buf := t.frm.buf, count := 0 }
      fd := { State.reset.fd with crc := t.fd.crc } }) ∧
  (∀ arg : BitVec 24, decode [0x01#8 ++ arg] =
    if arg = 0 then .instr .reset 1 else .reject .badArg (0x01#8 ++ arg))

/-- Rule R335: STATUS returns the eight words and changes nothing (so it is idempotent and leaves `SYN[w].updated`). -/
def Obligations.StatusReportsTheState : Prop :=
  ∀ s : State, ∃ w0 w1 w4 w5 : Word32,
    exec .status s = .next { s with
      rsp := s.rsp ++ [0x02000008, w0, w1, BitVec.ofNat 32 s.dem.viterbiCost, BitVec.ofNat 32 s.fd.cost, w4, w5,
        f32OfReal s.cor.limit, f32OfReal s.clk.clock] } ∧
    (w0.extractLsb' 0 3 = BitVec.ofNat 3 (demodCode s.dem.state) ∧ w0.getLsbD 3 = false ∧
     w0.extractLsb' 4 3 = BitVec.ofNat 3 (fdStateCode s.fd.state) ∧ w0.getLsbD 7 = false ∧
     w0.getLsbD 8 = s.dem.dcd ∧ w0.extractLsb' 9 2 = BitVec.ofNat 2 (syncTypeCode s.dem.syncWordType) ∧
     w0.getLsbD 11 = false ∧ w0.extractLsb' 12 4 = BitVec.ofNat 4 s.dem.sampleIndex.val ∧
     w0.getLsbD 16 = s.cfg.diagEnable ∧ w0.getLsbD 17 = s.cfg.polarityNeg ∧ w0.getLsbD 18 = s.dcd.locked ∧
     w0.getLsbD 19 = s.clk.seeded ∧ w0.extractLsb' 20 4 = BitVec.ofNat 4 s.dem.syncSampleIndex.val ∧
     w0.extractLsb' 24 4 = BitVec.ofNat 4 s.clk.sampleIndex.val ∧ w0.getLsbD 28 = s.dem.needClockReset ∧
     w0.getLsbD 29 = s.dem.needClockUpdate ∧ w0.extractLsb' 30 2 = 0) ∧
    (w1.extractLsb' 0 6 = s.fd.lichMask ∧ w1.extractLsb' 6 2 = 0 ∧
     w1.extractLsb' 8 8 = BitVec.ofNat 8 s.dem.costCount ∧
     w1.extractLsb' 16 12 = BitVec.ofNat 12 s.dem.missingSyncCount ∧ w1.extractLsb' 28 4 = 0) ∧
    (w4.extractLsb' 0 16 = s.crc ∧ w4.extractLsb' 16 9 = BitVec.ofNat 9 s.frm.count ∧ w4.extractLsb' 25 7 = 0) ∧
    (w5.extractLsb' 0 8 = BitVec.ofNat 8 s.dem.syncCount ∧ w5.extractLsb' 8 7 = BitVec.ofNat 7 s.cor.pos.val ∧
     w5.getLsbD 15 = false ∧ w5.extractLsb' 16 7 = BitVec.ofNat 7 s.cor.prevPos.val ∧ w5.getLsbD 23 = false ∧
     w5.getLsbD 24 = s.synPreamble.triggered ∧ w5.getLsbD 25 = s.synLsf.triggered ∧
     w5.getLsbD 26 = s.synPacket.triggered ∧ w5.extractLsb' 27 5 = 0)

/-- Rule R356: the operations that share nothing with DEM_SAMPLE leave every register DEM_SAMPLE uses, the configuration
and the command stream as they are, whatever their outcome. -/
def Obligations.SafeOperationsLeaveDemodulatorState : Prop :=
  ∀ (i : Instr) (s t : State), operationSharesNothing i = true → exec i s = .next t →
    t.cor = s.cor ∧ t.synPreamble = s.synPreamble ∧ t.synLsf = s.synLsf ∧ t.synPacket = s.synPacket ∧ t.dcd = s.dcd ∧
    t.clk = s.clk ∧ t.dev = s.dev ∧ t.frm = s.frm ∧ t.fd = s.fd ∧ t.dem = s.dem ∧ t.cfg = s.cfg ∧
    t.input = s.input ∧ t.cmdIndex = s.cmdIndex

/-- Rule R348, the unit resets CRC_RESET, CLK_RESET, FRM_RESET and FD_RESET: what each resets, and that it leaves
everything else. -/
def Obligations.UnitResetsCoverTheirUnit : Prop :=
  ∀ s : State,
    exec .crcReset s = .next { s with crc := 0x36E6, rsp := s.rsp ++ [0x10000000] } ∧
    exec .clkReset s = .next { s with clk := State.reset.clk, rsp := s.rsp ++ [0x72000000] } ∧
    exec .frmReset s = .next { s with frm := { s.frm with count := 0 }, rsp := s.rsp ++ [0x81000000] } ∧
    exec .fdReset s = .next { s with
      fd := { s.fd with state := .lsf, lichMask := 0, lsf := Vector.replicate 30 0, cost := 0 }
      rsp := s.rsp ++ [0x89000000] }

/-! ## CRC -/

/-- Rules R112, R115: CRC_UPDATE folds one byte, most significant bit first, the bit entering at bit 0 and the polynomial
0x5935 applied when a 1 leaves bit 15; CRC_UPDATEN folds its bytes in order; the register does not depend on how the bytes
are split between commands; nothing else changes.  A reserved bit of CRC_UPDATE and a count of 0 are BAD_ARG. -/
def Obligations.CrcUpdateFoldsBytes : Prop :=
  (∀ (b : Byte) (s : State),
    exec (.crcUpdate b) s = .next { s with
      crc := (List.range 8).foldl
        (fun reg k => ((reg <<< 1) ||| BitVec.ofNat 16 (b.getLsbD (7 - k)).toNat) ^^^
          (if reg.getLsbD 15 then 0x5935 else 0)) s.crc
      rsp := s.rsp ++ [0x11000000] }) ∧
  (∀ (bytes : List Byte) (s : State), 1 ≤ bytes.length → bytes.length ≤ 65535 →
    ∃ r : BitVec 16,
      exec (.crcUpdaten bytes) s = .next { s with crc := r, rsp := s.rsp ++ [0x12000000] } ∧
      execAll (bytes.map .crcUpdate) s =
        .next { s with crc := r, rsp := s.rsp ++ List.replicate bytes.length 0x11000000 }) ∧
  (∀ (a b : List Byte) (s : State), 1 ≤ a.length → 1 ≤ b.length → a.length + b.length ≤ 65535 →
    ∃ r : BitVec 16,
      exec (.crcUpdaten (a ++ b)) s = .next { s with crc := r, rsp := s.rsp ++ [0x12000000] } ∧
      execAll [.crcUpdaten a, .crcUpdaten b] s =
        .next { s with crc := r, rsp := s.rsp ++ [0x12000000, 0x12000000] }) ∧
  (∀ arg : BitVec 24, decode [0x11#8 ++ arg] =
    if arg.extractLsb' 8 16 = 0 then .instr (.crcUpdate (arg.extractLsb' 0 8)) 1 else .reject .badArg (0x11#8 ++ arg)) ∧
  (∀ ws : List Word32, decode (0x12000000 :: ws) = .reject .badArg 0x12000000)

/-- Rules R113, R114, R118: CRC_FINAL returns the register after sixteen more shifts with 0, CRC_BYTES the same value as
two bytes, high byte first; neither changes the register or anything else.  After CRC_RESET and CRC_UPDATEN it is `crc16`
of the bytes; of no bytes it is 0xFFFF.  A reserved bit is BAD_ARG. -/
def Obligations.CrcFinalAndBytesReadOnly : Prop :=
  (∀ s : State,
    let v := (List.range 16).foldl
      (fun (reg : BitVec 16) _ => (reg <<< 1) ^^^ (if reg.getLsbD 15 then 0x5935 else 0)) s.crc
    exec .crcFinal s = .next { s with rsp := s.rsp ++ [0x13000001, 0#16 ++ v] } ∧
    exec .crcBytes s = .next { s with rsp := s.rsp ++ [0x14000001, v ++ 0#16] }) ∧
  crc16 [] = 0xFFFF ∧
  (∀ (bytes : List Byte) (s : State), 1 ≤ bytes.length → bytes.length ≤ 65535 →
    execAll [.crcReset, .crcUpdaten bytes, .crcFinal] s = .next { s with
      crc := crcFold 0x36E6 bytes
      rsp := s.rsp ++ [0x10000000, 0x12000000, 0x13000001, 0#16 ++ crc16 bytes] }) ∧
  (∀ arg : BitVec 24,
    decode [0x13#8 ++ arg] = (if arg = 0 then .instr .crcFinal 1 else .reject .badArg (0x13#8 ++ arg)) ∧
    decode [0x14#8 ++ arg] = (if arg = 0 then .instr .crcBytes 1 else .reject .badArg (0x14#8 ++ arg)))

/-- Rule R117, the zero-residue law, for every seed, every polynomial and every length; `crc16` is the instance that
M17CORE fixes. -/
def Obligations.CrcOfAppendedChecksumIsZero : Prop :=
  (∀ (poly seed : BitVec 16) (bytes : List Byte),
    let v := crcValue poly seed bytes
    crcValue poly seed (bytes ++ [v.extractLsb' 8 8, v.extractLsb' 0 8]) = 0) ∧
  (∀ bytes : List Byte, crc16 bytes = crcValue 0x5935 0x36E6 bytes ∧
    crc16 (bytes ++ [(crc16 bytes).extractLsb' 8 8, (crc16 bytes).extractLsb' 0 8]) = 0)

/-- Rule R119: `crc16` is affine. -/
def Obligations.CrcIsAffine : Prop :=
  ∀ a b : List Byte, a.length = b.length →
    crc16 (List.zipWith (· ^^^ ·) a b) = crc16 a ^^^ crc16 b ^^^ crc16 (List.replicate a.length 0)

/-! ## Golay -/

/-- Rule R122: the codeword is systematic, has even weight and syndrome 0; GOLAY_ENC returns it and changes nothing; the
worked values; a reserved bit is BAD_ARG. -/
def Obligations.GolayEncodeIsSystematic : Prop :=
  (∀ (d : BitVec 12) (s : State), ∃ checks : BitVec 11, ∃ p : BitVec 1,
    exec (.golayEnc d) s = .next { s with rsp := s.rsp ++ [0x20000001, 0#8 ++ (d ++ checks ++ p : BitVec 24)] } ∧
    popcount (d ++ checks ++ p : BitVec 24) % 2 = 0 ∧ golaySyndrome (d ++ checks) = 0 ∧
    golayEnc24 d = d ++ checks ++ p) ∧
  golayEnc24 0x000 = 0x000000 ∧ golayEnc24 0x001 = 0x0018EB ∧ golayEnc24 0x800 = 0x800C75 ∧
  golayEnc24 0xFFF = 0xFFFFFF ∧ golayEnc24 0xABC = 0xABC23C ∧ golayEnc24 0x123 = 0x1230AC ∧
  (∀ arg : BitVec 24, decode [0x20#8 ++ arg] =
    if arg.extractLsb' 12 12 = 0 then .instr (.golayEnc (arg.extractLsb' 0 12)) 1 else .reject .badArg (0x20#8 ++ arg))

/-- Rules R124, R125: the table is total, holds only patterns of at most three bits, and finds each of them by its syndrome;
GOLAY_DEC corrects by the table's pattern `e` and answers OK when `e` has at most two bits or the corrected word has even
parity, else UNCORRECTABLE without payload; nothing else changes. -/
def Obligations.GolayTableIsPerfectAndGated : Prop :=
  (∀ x : BitVec 11, ∃ e, golayLut x = some e ∧ popcount e ≤ 3 ∧ golaySyndrome e = x) ∧
  (∀ e : BitVec 23, popcount e ≤ 3 → golayLut (golaySyndrome e) = some e) ∧
  (∀ (w : BitVec 24) (e : BitVec 23) (s : State), golayLut (golaySyndrome (w.extractLsb' 1 23)) = some e →
    exec (.golayDec w) s =
      if popcount e ≤ 2 ∨ popcount (w ^^^ (e ++ 0#1)) % 2 = 0 then
        .next { s with rsp := s.rsp ++ [0x21000001, 0#20 ++ (w ^^^ (e ++ 0#1)).extractLsb' 12 12] }
      else .next { s with rsp := s.rsp ++ [0x21100000] })

/-- Rule R126: every corruption of a codeword in at most three of its 24 bits, none included, is decoded to the data. -/
def Obligations.GolayCorrectsUpToThreeErrors : Prop :=
  ∀ (d : BitVec 12) (f : BitVec 24) (s : State), popcount f ≤ 3 →
    exec (.golayDec (golayEnc24 d ^^^ f)) s = .next { s with rsp := s.rsp ++ [0x21000001, 0#20 ++ d] }

/-- The consequence that rule R127 (a) draws: every corruption in exactly four bits is reported UNCORRECTABLE. -/
def Obligations.GolayReportsFourErrors : Prop :=
  ∀ (d : BitVec 12) (f : BitVec 24) (s : State), popcount f = 4 →
    exec (.golayDec (golayEnc24 d ^^^ f)) s = .next { s with rsp := s.rsp ++ [0x21100000] }

/-! ## Convolutional coder and bit utilities -/

/-- Rules R32, R138: CONV_ENC answers with the 2(n+4) coded bits and leaves the encoder at 0; nothing else changes. -/
def Obligations.ConvEncodeFlushesToZero : Prop :=
  ∀ (x : List Bool) (s : State), x.length ≤ 240 →
    exec (.convEnc x) s = .next { s with
      cnvMem := 0
      rsp := s.rsp ++ ((0x30000000 + BitVec.ofNat 32 ((x.length + 4 + 15) / 16)) :: packBits (convEncode x)) } ∧
    (convEncode x).length = 2 * (x.length + 4)

/-- Rules R137, R139 (a): each output bit is the sum of the input bits its generator taps, and the encoder is linear. -/
def Obligations.ConvOutputsFollowGenerators : Prop :=
  (∀ (x : List Bool) (t : Nat), t < x.length + 4 →
    let past := fun k => if k ≤ t then x.getD (t - k) false else false
    (convEncode x).getD (2 * t) false = (past 0 ^^ past 3 ^^ past 4) ∧
    (convEncode x).getD (2 * t + 1) false = (past 0 ^^ past 1 ^^ past 2 ^^ past 4)) ∧
  (∀ a b : List Bool, a.length = b.length →
    convEncode (List.zipWith (· ^^ ·) a b) = List.zipWith (· ^^ ·) (convEncode a) (convEncode b))

/-- Rules R141, R142, R146: PUNCTURE answers with the count and the kept bits, a subsequence of the input that fits the
capacity; DEPUNCTURE with exactly `n_out` LLRs; LLR_MAP with two LLRs; nothing but the response stream changes. -/
def Obligations.BitUtilitiesAnswer : Prop :=
  (∀ (m : MaskSel) (nOut : BitVec 10) (x : List Bool) (s : State), x.length ≤ 488 → nOut.toNat ≤ 488 →
    ∃ y : List Bool, y = puncture x (m17core.mask m) nOut.toNat ∧ y.length ≤ nOut.toNat ∧ y.Sublist x ∧
      exec (.puncture m nOut x) s = .next { s with
        rsp := s.rsp ++ recordWords 0x31 0x00 (BitVec.ofNat 32 y.length :: packBits y) }) ∧
  (∀ (m : MaskSel) (nOut : BitVec 10) (y : List Byte) (s : State), y.length ≤ 488 → nOut.toNat ≤ 488 →
    (∀ b ∈ y, inLlrRange b) →
    ∃ z : List Llr, z = depuncture (y.map fun b => b.toInt) (m17core.mask m) nOut.toNat ∧ z.length = nOut.toNat ∧
      LlrList z ∧
      exec (.depuncture m nOut y) s = .next { s with
        rsp := s.rsp ++ recordWords 0x32 0x00 (packBytes (llrBytes z)) }) ∧
  (∀ (x : Word32) (r : RealVal) (s : State), realOfF32 x = some r →
    ∃ a b : Byte, inLlrRange a ∧ inLlrRange b ∧ a.toInt = (m17core.llrMap r).1 ∧ b.toInt = (m17core.llrMap r).2 ∧
      exec (.llrMap x) s = .next { s with rsp := s.rsp ++ [0x33000001, a ++ b ++ 0#16] })

/-- Rules R141, R142, R143, for every mask applied cyclically.  Puncturing keeps the bits at the ones of the mask, in order,
and drops what the capacity does not hold.  Depuncturing writes exactly `n` LLRs: at a one of the mask the next input, 0 at a
zero of the mask and where the input is exhausted; input left over is ignored.  So it inverts puncturing at the kept positions
and fills the others with erasures when the capacity holds every kept bit, and with a smaller capacity the positions whose
kept bit was dropped are erasures as well. -/
def Obligations.DepunctureInvertsPuncture : Prop :=
  let kept := fun (m : List Bool) (i : Nat) => m.getD (i % m.length) false
  let keptBefore := fun (m : List Bool) (i : Nat) => ((List.range i).filter fun j => kept m j).length
  (∀ (x m : List Bool) (cap : Nat),
    puncture x m cap = (((List.range x.length).filter fun i => kept m i).map fun i => x.getD i false).take cap) ∧
  (∀ (y : List Llr) (m : List Bool) (n : Nat), (depuncture y m n).length = n ∧
    ∀ i < n, (depuncture y m n).getD i 0 = if kept m i then y.getD (keptBefore m i) 0 else 0) ∧
  (∀ (c m : List Bool) (cap : Nat), keptBefore m c.length ≤ cap →
    depuncture ((puncture c m cap).map soft) m c.length =
      (List.range c.length).map fun i => if kept m i then soft (c.getD i false) else 0) ∧
  (∀ (c m : List Bool) (cap : Nat),
    depuncture ((puncture c m cap).map soft) m c.length =
      (List.range c.length).map fun i => if kept m i && decide (keptBefore m i < cap) then soft (c.getD i false) else 0)

/-! ## Viterbi -/

/-- Rules R165, R166, R167 (f): VIT_DECODE answers with the cost and the first `n_out` bits of the decode of its LLRs, the
cost the winning metric over 7 rounded, at most 976; of the state only the scratch changes. -/
def Obligations.VitDecodeChangesOnlyScratch : Prop :=
  ∀ (nOut : BitVec 10) (l : List Byte), 2 ≤ l.length → l.length % 2 = 0 → l.length ≤ 488 →
    2 * nOut.toNat ≤ l.length → (∀ b ∈ l, inLlrRange b) →
    let v := viterbi (l.map fun b => b.toInt) nOut.toNat
    v.cost ≤ 976 ∧ v.cost = (2 * v.minMetric + 7) / 14 ∧ v.bits.length = nOut.toNat ∧
      ∀ s : State, ∃ scratch : Vit,
        exec (.vitDecode nOut l) s = .next { s with
          vit := scratch
          rsp := s.rsp ++ recordWords 0x40 0x00 (BitVec.ofNat 32 v.cost :: packBits v.bits) }

/-- Rules R163, R164, R167 (a): the decoded bits are a path from state 0 whose metric is the reported one, and no path of
the same length from state 0 has a smaller metric. -/
def Obligations.ViterbiPathIsOptimal : Prop :=
  ∀ (l : List Llr) (n : Nat), LlrList l → l.length = 2 * n → 1 ≤ n → n ≤ 244 →
    (viterbi l n).bits.length = n ∧ pathMetricOf 0 (viterbi l n).bits l = (viterbi l n).minMetric ∧
    ∀ bs : List Bool, bs.length = n → (viterbi l n).minMetric ≤ pathMetricOf 0 bs l

/-- Rule R167 (b): a codeword received at full scale decodes to the data with metric 0, cost 0 and final state 0. -/
def Obligations.ViterbiDecodesCleanCodeword : Prop :=
  ∀ x : List Bool, x.length ≤ 240 →
    let l := (convEncode x).map soft
    (viterbi l x.length).minMetric = 0 ∧ (viterbi l x.length).cost = 0 ∧ (viterbi l x.length).bits = x ∧
    bestState (acsRun vitInit l).1 = 0

/-- Rule R167 (d): `k` full-scale sign errors, all other coded bits right or erased, cost at most `14 k` in the metric and
`2 k` in the cost. -/
def Obligations.ViterbiCostBoundsSignErrors : Prop :=
  ∀ (x : List Bool) (l : List Llr) (k nOut : Nat), x.length ≤ 240 → l.length = (convEncode x).length →
    (∀ p ∈ (convEncode x).zip l, p.2 = soft p.1 ∨ p.2 = 0 ∨ p.2 = -soft p.1) →
    (((convEncode x).zip l).filter fun p => p.2 = -soft p.1).length ≤ k →
    (viterbi l nOut).minMetric ≤ 14 * k ∧ (viterbi l nOut).cost ≤ 2 * k

/-! ## Interleaver and randomizer -/

/-- Rules R177, R178, R179 (a), (b): the index function is a bijection on 0..367 and its own inverse; INTERLEAVE writes element `i` to position `ilv_index(i)`, DEINTERLEAVE reads it from there, on bits
and on LLRs, and each undoes the other; nothing but the response stream changes. -/
def Obligations.InterleaveOperationsPermute : Prop :=
  (∀ i < 368, ilvIndex i < 368 ∧ ilvIndex (ilvIndex i) = i) ∧
  (∀ (x : List Bool) (s : State), x.length = 368 →
    exec (.interleave (.bits x)) s = .next { s with rsp := s.rsp ++ (0x5000000C :: packBits (interleave false x)) } ∧
    exec (.deinterleave (.bits x)) s =
      .next { s with rsp := s.rsp ++ (0x5100000C :: packBits (deinterleave false x)) }) ∧
  (∀ (l : List Byte) (s : State), l.length = 368 → (∀ b ∈ l, inLlrRange b) →
    exec (.interleave (.llrs l)) s = .next { s with rsp := s.rsp ++ (0x5000005C :: packBytes (interleave 0 l)) } ∧
    exec (.deinterleave (.llrs l)) s =
      .next { s with rsp := s.rsp ++ (0x5100005C :: packBytes (deinterleave 0 l)) }) ∧
  (∀ (α : Type) (d : α) (x : List α), x.length = 368 →
    (interleave d x).length = 368 ∧
    (∀ i < 368, (interleave d x).getD (ilvIndex i) d = x.getD i d ∧
      (deinterleave d x).getD i d = x.getD (ilvIndex i) d) ∧
    deinterleave d (interleave d x) = x ∧ interleave d (deinterleave d x) = x)

/-- Rules R181, R182: RANDOMIZE adds `rand_bit(i)` to bit `i`, DERANDOMIZE negates LLR `i` where `rand_bit(i)` is 1; each
undoes itself, and they agree on full-scale LLRs; nothing but the response stream changes. -/
def Obligations.RandomizeOperationsScramble : Prop :=
  let randBit := fun i : Nat => (m17core.randSeq.getD (i / 8) 0).getLsbD (7 - i % 8)
  (∀ (x : List Bool) (s : State), x.length = 368 → ∃ y : List Bool,
    exec (.randomize x) s = .next { s with rsp := s.rsp ++ (0x5200000C :: packBits y) } ∧ y.length = 368 ∧
    (∀ i < 368, y.getD i false = (x.getD i false ^^ randBit i)) ∧
    y = randomize m17core.randSeq x ∧ randomize m17core.randSeq y = x ∧
    derandomize m17core.randSeq (x.map soft) = y.map soft) ∧
  (∀ (l : List Byte) (s : State), l.length = 368 → (∀ b ∈ l, inLlrRange b) → ∃ m : List Llr,
    exec (.derandomize l) s = .next { s with rsp := s.rsp ++ (0x5300005C :: packBytes (llrBytes m)) } ∧
    m.length = 368 ∧
    (∀ i < 368, m.getD i 0 = (if randBit i then -1 else 1) * (l.getD i 0).toInt) ∧
    m = derandomize m17core.randSeq (l.map fun b => b.toInt) ∧
    derandomize m17core.randSeq m = l.map fun b => b.toInt)

/-! ## Correlator, sync detectors, carrier detect -/

/-- Rules R191, R192, R195: COR_SAMPLE writes the ring at the write position, moves both positions and steps the level
filter (its instance is log entry 6); nothing else changes.  After eighty samples the ring holds exactly those, the phase
index has advanced by one modulo ten with each, and the correlation meets symbol `k` with sample `10 k + 9`. -/
def Obligations.CorSampleFillsRing : Prop :=
  (∀ (x : Word32) (r : RealVal) (s : State), realOfF32 x = some r →
    exec (.corSample x) s = .next { s with
      cor := {
        buf := s.cor.buf.set s.cor.pos.val r s.cor.pos.isLt
        pos := s.cor.pos + 1
        prevPos := s.cor.pos
        limit := s.cor.lpf + (|r| - s.cor.lpf) / 128
        lpf := s.cor.lpf + (|r| - s.cor.lpf) / 128 }
      rsp := s.rsp ++ [0x60000000] }) ∧
  (∀ (c : Cor) (xs : List RealVal), xs.length = 80 →
    let c' := xs.foldl (fun c x => corSample m17core x c) c
    (∀ k : Nat, k < 80 → c'.buf[ring (c'.prevPos.val + 1 + k)] = xs.getD k 0) ∧
    (corIndex c').val = (c.pos.val + 79) % 10 ∧
    (∀ w, correlate m17core c' w =
      ((List.range 8).map fun k => (((m17core.sync w).getD k 0 : Int) : RealVal) * xs.getD (10 * k + 9) 0).sum))

/-- Rules R195, R200: COR_CORRELATE and SYNC_TRIGGERED return the correlation, the second only beyond a threshold scaled by
the level and 0 otherwise, as binary32; they change nothing but the response stream; the selector 3 is BAD_ARG.  (That the
exact 0 is returned as the word 0x00000000 and not 0x80000000 is the model's choice: log entry 3.) -/
def Obligations.CorrelationReadsChangeNothing : Prop :=
  (∀ (w : SynSel) (s : State),
    let v := ((List.range 8).map fun k =>
      (((m17core.sync w).getD k 0 : Int) : RealVal) * s.cor.buf[ring (s.cor.prevPos.val + 10 * (k + 1))]).sum
    exec (.corCorrelate w) s = .next { s with rsp := s.rsp ++ [0x61000001, f32OfReal v] } ∧
    ((s.cor.limit * m17core.mag1 w < v ∨ ∃ m ∈ m17core.mag2 w, v < s.cor.limit * m) →
      exec (.syncTriggered w) s = .next { s with rsp := s.rsp ++ [0x62000001, f32OfReal v] }) ∧
    (¬ (s.cor.limit * m17core.mag1 w < v ∨ ∃ m ∈ m17core.mag2 w, v < s.cor.limit * m) →
      exec (.syncTriggered w) s = .next { s with rsp := s.rsp ++ [0x62000001, 0] })) ∧
  decode [0x61000003] = .reject .badArg 0x61000003 ∧ decode [0x62000003] = .reject .badArg 0x62000003

/-- Rules R202, R203: one detector step: the window opens, collects, or closes on the earliest sample of largest magnitude,
whose sign is reported; the response is the timing index; the other detectors and everything else stay; the selector 3 is
BAD_ARG. -/
def Obligations.SyncStepFindsPeak : Prop :=
  (∀ (w : SynSel) (s : State), ∃ y : Syn,
    exec (.syncStep w) s = .next (append [0x63000001, BitVec.ofNat 32 y.timingIndex.val] (s.setSyn w y)) ∧
    (let old := s.syn w
     let v := synTriggered m17core s.cor w
     let i := corIndex s.cor
     (v ≠ 0 → y.triggered = true ∧ y.timingIndex = old.timingIndex ∧ y.updated = old.updated ∧
       ∀ j : Fin 10, y.samples[j] = if j = i then v else if old.triggered then old.samples[j] else 0) ∧
     (v = 0 → old.triggered = true → y.triggered = false ∧ y.samples = old.samples ∧
       (∀ j : Fin 10, |old.samples[j]| ≤ |old.samples[y.timingIndex]|) ∧
       (∀ j : Fin 10, j < y.timingIndex → |old.samples[j]| < |old.samples[y.timingIndex]|) ∧
       y.updated = if 0 < old.samples[y.timingIndex] then .plus else .minus) ∧
     (v = 0 → old.triggered = false → y = old))) ∧
  decode [0x63000003] = .reject .badArg 0x63000003

/-- Rule R204: SYNC_UPDATED returns the sign as a two's-complement word and clears it; a second read returns 0; the selector 3 is BAD_ARG. -/
def Obligations.SyncUpdatedReadsAndClears : Prop :=
  (∀ (w : SynSel) (s : State),
    let cleared := s.setSyn w { s.syn w with updated := .zero }
    let word : Word32 := match (s.syn w).updated with
      | .zero => 0x00000000
      | .plus => 0x00000001
      | .minus => 0xFFFFFFFF
    exec (.syncUpdated w) s = .next { cleared with rsp := s.rsp ++ [0x64000001, word] } ∧
    execAll [.syncUpdated w, .syncUpdated w] s =
      .next { cleared with rsp := s.rsp ++ [0x64000001, word, 0x64000001, 0] }) ∧
  decode [0x64000003] = .reject .badArg 0x64000003

/-- Rules R206, R209, R210, R211: DCD_SAMPLE steps both bins with the sample and adds the power of each to its accumulator.
DCD_UPDATE smooths the level, empties the accumulators and decides with hysteresis; an empty out-of-band accumulator counts
as ratio 0.  Each leaves everything else.  (The thresholds 4 and 1 are general knowledge: log entry 5.) -/
def Obligations.CarrierDetectAccumulatesAndDecides : Prop :=
  (∀ (x : Word32) (r : RealVal) (s : State), realOfF32 x = some r →
    ∃ a b : Sdft,
      exec (.dcdSample x) s = .next { s with
        dcd := { s.dcd with
          sdftIn := a, sdftOut := b
          accIn := s.dcd.accIn + (a.re * a.re + a.im * a.im)
          accOut := s.dcd.accOut + (b.re * b.re + b.im * b.im) }
        rsp := s.rsp ++ [0x68000000] } ∧
      (∀ p ∈ [(s.dcd.sdftIn, a, m17core.dcdW m17core.dcdFIn), (s.dcd.sdftOut, b, m17core.dcdW m17core.dcdFOut)],
        let u := p.1.re + (r - p.1.delay.getD p.1.j 0)
        p.2.1.re = u * p.2.2.1 - p.1.im * p.2.2.2 ∧ p.2.1.im = u * p.2.2.2 + p.1.im * p.2.2.1 ∧
        p.2.1.delay = p.1.delay.set p.1.j r ∧ p.2.1.j = (p.1.j + 1) % p.1.delay.length)) ∧
  (∀ s : State, ∃ k : Bool,
    let ratio : RealVal := if s.dcd.accOut = 0 then 0 else s.dcd.accIn / s.dcd.accOut
    let level : RealVal := (4 / 5) * s.dcd.level + (1 / 5) * ratio
    exec .dcdUpdate s = .next { s with
      dcd := { s.dcd with accIn := 0, accOut := 0, level := level, locked := k }
      rsp := s.rsp ++ [0x69000001, if k then 1 else 0] } ∧
    (4 < level → k = true) ∧ (level ≤ 1 → k = false) ∧ (1 < level → level ≤ 4 → k = s.dcd.locked))

/-! ## Clock recovery -/

/-- Rule R216: CLK_SAMPLE adds the sign-corrected difference to the current bin and moves to the next; only a seeded clock
counts samples; nothing else changes.  An infinity or a NaN is BAD_OPERAND. -/
def Obligations.ClkSampleAddsSlope : Prop :=
  (∀ (x : Word32) (r : RealVal) (s : State), realOfF32 x = some r → ∃ est : Vector RealVal 10,
    exec (.clkSample x) s = .next { s with
      clk := { s.clk with
        est := est, prevSample := r, idx := s.clk.idx + 1
        sampleCount := s.clk.sampleCount + (if s.clk.seeded then 1 else 0) }
      rsp := s.rsp ++ [0x70000000] } ∧
    ∀ j : Fin 10, est[j] = s.clk.est[j] +
      (if j = s.clk.idx then
        (if r + s.clk.prevSample < 0 then s.clk.prevSample - r else r - s.clk.prevSample) else 0)) ∧
  (∀ (x : Word32) (s : State), notFinite x → exec (.clkSample x) s = .next { s with
    core := { faultCode := 0x82, faultCmd := 0x70000000 }, rsp := s.rsp ++ [0xFF820001, 0x70000000] })

/-- Rules R217 to R221: CLK_UPDATE chooses the bin before the first fall from positive to negative (bin 9 when there is
none), clears the bins, and, once seeded, adds the drift, a move of more than half a period read the other way round, and bounds
the clock by 0.05 %; the first update only seeds; nothing else changes. -/
def Obligations.ClkUpdateChoosesFallingEdge : Prop :=
  ∀ s : State, ∃ (c : Clk) (drift : Int),
    exec .clkUpdate s = .next { s with
      clk := c, rsp := s.rsp ++ [0x71000002, BitVec.ofNat 32 c.sampleIndex.val, f32OfReal c.clock] } ∧
    (∀ j : Fin 10, s.clk.est[j] < 0 → (∃ i : Fin 10, i < j ∧ 0 < s.clk.est[i]) →
      (∀ j' : Fin 10, j' < j → s.clk.est[j'] < 0 → ∀ i : Fin 10, i < j' → ¬ 0 < s.clk.est[i]) →
      c.sampleIndex + 1 = j) ∧
    ((∀ i j : Fin 10, i < j → 0 < s.clk.est[i] → ¬ s.clk.est[j] < 0) → c.sampleIndex = 9) ∧
    c.prevSampleIndex = c.sampleIndex ∧ (∀ j : Fin 10, c.est[j] = 0) ∧ c.idx = s.clk.idx ∧
    c.prevSample = s.clk.prevSample ∧ c.seeded = true ∧
    (let move : Int := c.sampleIndex.val - s.clk.prevSampleIndex.val
     drift = if 5 < move then move - 10 else if move < -5 then move + 10 else move) ∧
    (s.clk.seeded = false → c.offsetTotal = 0 ∧ c.sampleCount = 0 ∧ c.clock = s.clk.clock) ∧
    (s.clk.seeded = true → c.offsetTotal = s.clk.offsetTotal + drift ∧ c.sampleCount = s.clk.sampleCount ∧
      (s.clk.sampleCount = 0 → c.clock = s.clk.clock) ∧
      (0 < s.clk.sampleCount → c.clock =
        max (1 - 1 / 2000) (min (1 + 1 / 2000) (1 + c.offsetTotal / s.clk.sampleCount))))

/-- Rule R63: a real within the range of binary32 is returned as a binary32 word that no other is nearer to.  (What a tie,
the sign of a zero and a real out of range give is free: log entry 3.) -/
def Obligations.ReturnedRealIsNearestBinary32 : Prop :=
  ∀ x : RealVal, |x| < 2 ^ 128 - 2 ^ 103 → ∃ r : RealVal, realOfF32 (f32OfReal x) = some r ∧
    ∀ (v : Word32) (r' : RealVal), realOfF32 v = some r' → |r - x| ≤ |r' - x|

/-! ## Framer and frame decoder -/

/-- Rule R236: a push puts the two LLRs into the next two places; the push that completes the frame returns a copy of it and
starts the next; nothing else changes; an LLR out of range is BAD_OPERAND.  Of 184 pushes from an empty framer only the last returns the frame, its 368 LLRs in
the order pushed. -/
def Obligations.FramerReturnsFrameOnLastPush : Prop :=
  (∀ (a b : Byte) (s : State), ¬ (inLlrRange a ∧ inLlrRange b) → exec (.frmPush a b) s = .next { s with
    core := { faultCode := 0x82, faultCmd := 0x80000000 ||| (0#16 ++ a ++ b) }
    rsp := s.rsp ++ [0xFF820001, 0x80000000 ||| (0#16 ++ a ++ b)] }) ∧
  (∀ (a b : Byte) (s : State), inLlrRange a → inLlrRange b → s.frm.count + 1 < 368 →
    ∃ buf : Vector Llr 368,
      (∀ k : Fin 368, buf[k] =
        if k.val = s.frm.count then a.toInt else if k.val = s.frm.count + 1 then b.toInt else s.frm.buf[k]) ∧
      exec (.frmPush a b) s =
        (if s.frm.count + 2 = 368 then
          .next { s with
            frm := { buf := buf, count := 0 }, rsp := s.rsp ++ (0x8011005C :: packBytes (llrBytes buf.toList)) }
        else .next { s with
            frm := { buf := buf, count := s.frm.count + 2 }, rsp := s.rsp ++ [0x80000000] })) ∧
  (∀ (pairs : List (Byte × Byte)) (s : State), pairs.length = 184 →
    (∀ p ∈ pairs, inLlrRange p.1 ∧ inLlrRange p.2) → s.frm.count = 0 →
    ∃ buf : Vector Llr 368,
      execAll (pairs.map fun p => .frmPush p.1 p.2) s = .next { s with
        frm := { buf := buf, count := 0 }
        rsp := s.rsp ++ (List.replicate 183 0x80000000 ++
          0x8011005C :: packBytes (pairs.flatMap fun p => [p.1, p.2])) })

/-- Rule R240: FD_DECODE answers with the result and the cost after at most one event record, and changes only the frame
decoder's registers and the Viterbi scratch; the CRC register of the CRC operations is not one of them (rule R30). -/
def Obligations.FdDecodeChangesOnlyDecoder : Prop :=
  ∀ (accept : Bool) (sync : SyncType) (f : List Byte) (s : State), f.length = 368 → (∀ b ∈ f, inLlrRange b) →
    ∃ o : FdOut,
      o = fdDecode m17core sync accept (f.map fun b => b.toInt) s.fd s.vit ∧ o.fd.cost = o.cost ∧
      (o.event = [] ∨ ∃ t variant, o.event = frameEvent t o.cost o.fd.lsf.toList variant) ∧
      exec (.fdDecode accept sync f) s = .next { s with
        fd := o.fd, vit := o.vit
        rsp := s.rsp ++ (o.event ++ [0x88#8 ++ resultCode o.result ++ 1#16, BitVec.ofNat 32 o.cost]) }

/-- Rules R240, R241, R244, R247 to R257, R259: the dispatch on sync type and decoder state on the frame de-randomized and
de-interleaved, and for each path the condition, the result, the next state, the stored LSF, the LICH mask, the cost, the
payload and the event.  The LSF, stream, packet and BERT paths take bits and cost from one Viterbi decode; the LICH path
takes its six bytes from four Golay codewords and has cost 0, as a mismatch has.  (What the Viterbi scratch holds after a
decode, `vit.after v`, is the model's choice: log entry 15; the masks and the scrambling table are general knowledge: log entry
5.) -/
def Obligations.FdDecodeFollowsResultTable : Prop :=
  ∀ (sync : SyncType) (accept : Bool) (f : List Llr) (fd : Fd) (vit : Vit),
    let o := fdDecode m17core sync accept f fd vit
    let x := deinterleave 0 (derandomize m17core.randSeq f)
    let decoded := fun (l : List Llr) (m : MaskSel) (coded data : Nat) => viterbi (depuncture l (m17core.mask m) coded) data
    let costs := fun v : VitOut => o.cost = v.cost ∧ o.vit = vit.after v
    let event := fun t variant => o.event = frameEvent t o.cost o.fd.lsf.toList variant
    let keeps := o.fd.lsf = fd.lsf ∧ o.fd.lichMask = fd.lichMask
    let packet := fun (t : FrameType) (state : FdState) =>
      let v := decoded x .p3 420 206
      let pkt := bytesOfBits v.bits
      costs v ∧ keeps ∧ pkt.length = 26 ∧ event t pkt ∧
        (if (pkt.getD 25 0).getLsbD 7 then o.result = (if accept then .ok else .fail) ∧ o.fd.state = .lsf
         else o.result = .packetIncomplete ∧ o.fd.state = state)
    o.fd.cost = o.cost ∧
    match sync, fd.state with
    | .lsf, _ =>
      let v := decoded x .p1 488 240
      let l := bytesOfBits v.bits
      costs v ∧ l.length = 30 ∧
        (if crc16 l = 0 then
          o.result = .ok ∧ o.fd.lsf.toList = l ∧ o.fd.state = m17core.lsfClass l ∧ o.fd.lichMask = fd.lichMask ∧ event .lsf []
         else
          o.result = .fail ∧ o.fd.lsf = Vector.replicate 30 0 ∧ o.fd.state = .lsf ∧ o.fd.lichMask = 0 ∧ o.event = [])
    | .stream, .lsf =>
      let data := fun c : Nat => golayDec24 (BitVec.ofNat 24 (natOfBits (((x.drop (24 * c)).take 24).map hard)))
      let b := bytesOfBits ((List.range 4).flatMap fun c => bitsOf ((data c).getD 0))
      let n := ((b.getD 5 0).extractLsb' 5 3).toNat
      let mask := fd.lichMask ||| (1#6 <<< n)
      o.cost = 0 ∧ o.vit = vit ∧
      (if data 0 = none ∨ data 1 = none ∨ data 2 = none ∨ data 3 = none ∨ 5 < n then
        o.result = .fail ∧ o.event = [] ∧ o.fd.state = .lsf ∧ keeps
       else
        (∀ k : Fin 30, o.fd.lsf[k] = if k.val / 5 = n then b.getD (k.val % 5) 0 else fd.lsf[k]) ∧
        (if mask ≠ 0x3F then
          o.result = .incomplete ∧ o.fd.state = .lsf ∧ o.fd.lichMask = mask ∧ event .lich b
         else if crc16 o.fd.lsf.toList = 0 then
          o.result = .ok ∧ o.fd.state = .stream ∧ o.fd.lichMask = 0 ∧ event .lsf []
         else o.result = .fail ∧ o.fd.state = .lsf ∧ o.fd.lichMask = 0x3F ∧ event .lich b))
    | .stream, .stream =>
      let v := decoded (x.drop 96) .p2 296 144
      let pay := bytesOfBits v.bits
      costs v ∧ keeps ∧ pay.length = 18 ∧ event .stream pay ∧
        (if (pay.getD 0 0).getLsbD 7 ∧ o.cost < 60 then o.result = .eos ∧ o.fd.state = .lsf
         else o.result = .ok ∧ o.fd.state = .stream)
    | .packet, .basicPacket => packet .basicPacket .basicPacket
    | .packet, .fullPacket => packet .fullPacket .fullPacket
    | .bert, _ =>
      let v := decoded x .p2 402 197
      let t := bytesOfBits v.bits
      costs v ∧ keeps ∧ t.length = 25 ∧ event .bert t ∧ o.result = .ok ∧ o.fd.state = .bert
    | _, _ =>
      o.result = .fail ∧ o.cost = 0 ∧ o.event = [] ∧ o.vit = vit ∧ o.fd.state = .lsf ∧ keeps

/-- Rule R313 (b) and (c): a stream frame built by ENC_LICH and ENC_STREAM and received without errors.  In state LSF the
fragment is stored in its slot, its mask bit is set whatever the mask was, the payload is not decoded, and the mask that this
completes is cleared when the checksum is right.  In state STREAM the payload is delivered with cost 0, the top bit of its
first byte ends the stream, and the LICH is not decoded.  (It rests on the mask P2 and the scrambling table, which are general
knowledge: log entry 5.) -/
def Obligations.LichFragmentRoundTrip : Prop :=
  ∀ (frag pay : List Byte) (n : BitVec 3) (accept : Bool) (fd : Fd) (vit : Vit),
    frag.length = 5 → pay.length = 18 → n.toNat ≤ 5 →
    let frame := encStream m17core (bytesOfBits (encLich frag n)) pay
    let o := fdDecode m17core .stream accept (frame.map soft) fd vit
    (fd.state = .lsf →
      let mask := fd.lichMask ||| (1#6 <<< n.toNat)
      (∀ k : Fin 30, o.fd.lsf[k] = if k.val / 5 = n.toNat then frag.getD (k.val % 5) 0 else fd.lsf[k]) ∧
      o.cost = 0 ∧ o.vit = vit ∧
      (if mask ≠ 0x3F then o.result = .incomplete ∧ o.fd.lichMask = mask ∧ o.fd.state = .lsf
       else if crc16 o.fd.lsf.toList = 0 then o.result = .ok ∧ o.fd.lichMask = 0 ∧ o.fd.state = .stream
       else o.result = .fail ∧ o.fd.lichMask = 0x3F ∧ o.fd.state = .lsf)) ∧
    (fd.state = .stream →
      o.cost = 0 ∧ o.event = frameEvent .stream 0 fd.lsf.toList pay ∧ o.fd.lsf = fd.lsf ∧ o.fd.lichMask = fd.lichMask ∧
      (if (pay.getD 0 0).getLsbD 7 then o.result = .eos ∧ o.fd.state = .lsf else o.result = .ok ∧ o.fd.state = .stream))

/-- Rule R313 (a), (d) and (e): a frame built by ENC_LSF, ENC_PACKET or ENC_BERT and received without errors has cost 0.  The
LSF is accepted with its 30 bytes when its checksum is right and fails otherwise; the packet is delivered with the two low
bits of its last byte cleared, the test payload with the three low bits of its last byte cleared.  (It rests on the masks P1,
P2, P3 and the scrambling table, which are general knowledge: log entry 5.) -/
def Obligations.LsfFrameRoundTrip : Prop :=
  ∀ (accept : Bool) (fd : Fd) (vit : Vit),
    (∀ lsf : List Byte, lsf.length = 30 →
      let o := fdDecode m17core .lsf accept ((encLsf m17core lsf).map soft) fd vit
      o.cost = 0 ∧
      (crc16 lsf = 0 → o.result = .ok ∧ o.fd.lsf.toList = lsf ∧ o.event = frameEvent .lsf 0 lsf []) ∧
      (crc16 lsf ≠ 0 → o.result = .fail)) ∧
    (∀ (pkt : List Byte) (t : FrameType), pkt.length = 26 →
      (fd.state, t) ∈ [(FdState.basicPacket, FrameType.basicPacket), (.fullPacket, .fullPacket)] →
      let o := fdDecode m17core .packet accept ((encPacket m17core pkt).map soft) fd vit
      o.cost = 0 ∧ o.event = frameEvent t 0 fd.lsf.toList (pkt.take 25 ++ [pkt.getD 25 0 &&& 0xFC]) ∧
      (if (pkt.getD 25 0).getLsbD 7 then o.result = (if accept then .ok else .fail) ∧ o.fd.state = .lsf
       else o.result = .packetIncomplete ∧ o.fd.state = fd.state)) ∧
    (∀ bytes : List Byte, bytes.length = 25 →
      let o := fdDecode m17core .bert accept ((encBert m17core bytes).map soft) fd vit
      o.cost = 0 ∧ o.event = frameEvent .bert 0 fd.lsf.toList (bytes.take 24 ++ [bytes.getD 24 0 &&& 0xF8]) ∧
      o.result = .ok ∧ o.fd.state = .bert)

/-! ## Demodulator -/

/-- Rules R271 to R273, R278: DEM_SAMPLE with a finite sample completes.  In order: the carrier detector takes the raw sample;
the matched filter passes it on (one tap, and no gate on the carrier: log entry 6); the correlator; at phase 0 the clock housekeeping; clock recovery; the
deviation unit at the sampling point outside UNLOCKED; the handler; the carrier poll; the diagnostics tick.  The response,
after the event records, carries state and carrier decision after the step.  The command stream, the latch, the
configuration, the CRC register and the encoder are not touched (rule R355 (a)).  The housekeeping, in every state: a primed
reset resets clock recovery and leaves an update pending; else a pending update is made and the sampling phase follows the
clock's choice or the sync word's, whichever is at most one position away round the period; else nothing. -/
def Obligations.DemSampleCompletes : Prop :=
  (∀ (accept : Bool) (x : Word32) (r : RealVal) (s : State), realOfF32 x = some r →
    let raw := { s with dcd := dcdSample m17core r s.dcd, dem := { s.dem with mf := [r] } }
    let heard := { raw with cor := corSample m17core r raw.cor }
    let kept := if corIndex heard.cor = 0 then clockHousekeeping heard else heard
    let timed := { kept with clk := clkSample r kept.clk }
    let sampled :=
      if timed.dem.state ≠ .unlocked ∧ corIndex timed.cor = timed.dem.sampleIndex then
        { timed with dev := m17core.devEst.sample timed.dev r }
      else timed
    let t := diagTick m17core (dcdPoll m17core (demHandler m17core r accept sampled))
    ∃ (events : List Word32) (w : Word32),
      exec (.demSample accept x) s = .next { t with rsp := t.rsp ++ [0x90000001, w] } ∧ t.rsp = s.rsp ++ events ∧
      w.extractLsb' 0 3 = BitVec.ofNat 3 (demodCode t.dem.state) ∧ w.extractLsb' 3 5 = 0 ∧
      w.getLsbD 8 = t.dem.dcd ∧ w.extractLsb' 9 23 = 0 ∧
      t.input = s.input ∧ t.cmdIndex = s.cmdIndex ∧ t.core = s.core ∧ t.cfg = s.cfg ∧ t.crc = s.crc ∧
      t.cnvMem = s.cnvMem) ∧
  (∀ s : State,
    let apart := fun a b : Fin 10 => ((a.val : Int) - b.val).natAbs
    (s.dem.needClockReset = true →
      clockHousekeeping s = { s with clk := State.reset.clk, dem := { s.dem with needClockReset := false } }) ∧
    (s.dem.needClockReset = false → s.dem.needClockUpdate = true → ∃ u : State,
      exec .clkUpdate s = .next u ∧
      clockHousekeeping s = { s with
        clk := u.clk
        dem := { s.dem with
          needClockUpdate := false
          sampleIndex :=
            if apart u.clk.sampleIndex s.dem.sampleIndex ∈ [0, 1, 9] then u.clk.sampleIndex
            else if apart s.dem.syncSampleIndex s.dem.sampleIndex ∈ [0, 1, 9] then s.dem.syncSampleIndex
            else s.dem.sampleIndex } }) ∧
    (s.dem.needClockReset = false → s.dem.needClockUpdate = false → clockHousekeeping s = s))

/-- Rule R298: the transition table of the demodulator, on every sample and from every state: each change of `DEM.state`
is one of the table's, under the table's condition and with its side effects.  `edge` is what the detector reports on this
sample, `strong` and `value` the level test, `at_` the sampling phase after the clock housekeeping, `o` the decode of the frame
that this sample would complete.  Any state may also fall to UNLOCKED on a carrier loss at a poll.  A carrier that comes on
at a poll of the same sample does not change the state, but resets the frame decoder and clears the counters.  (It rests on
values of OPEN parameters: the poll period is general knowledge, log entry 5; that the raw sample `r` is the filtered one, that
the handler runs whether or not there is a carrier, and that the deviation registers stand as they were, are the one-tap
filter, the open gate and the identity estimator of log entry 6.) -/
def Obligations.DemodulatorTransitionsAreTheTable : Prop :=
  ∀ (accept : Bool) (x : Word32) (r : RealVal) (s t : State), realOfF32 x = some r →
    exec (.demSample accept x) s = .next t → t.dem.state ≠ s.dem.state →
    let cor := corSample m17core r s.cor
    let edge := fun w => synStep m17core cor w (s.syn w)
    let value := synTriggered m17core cor
    let strong := fun w => synStrong m17core cor w (value w)
    let at_ := (if corIndex cor = 0 then clockHousekeeping s else s).dem.sampleIndex
    let n := s.dem.syncCount + 1
    let misses := s.dem.missingSyncCount + 1
    let level := softSymbol s r
    let o := fdDecode m17core s.dem.syncWordType accept
      (s.frm.buf.toList.take 366 ++ [(m17core.llrMap level).1, (m17core.llrMap level).2]) s.fd s.vit
    let strikes :=
      if o.cost ≤ 90 then 0 else s.dem.costCount + (if o.cost ≤ 100 then 1 else if o.cost ≤ 110 then 2 else 3)
    let carrierKept := t.dem.dcd = s.dem.dcd
    let cleared := fun fd : Fd => { fd with state := .lsf, lichMask := 0, lsf := Vector.replicate 30 0, cost := 0 }
    let found := fun (w : SynSel) (tag : SyncType) =>
      t.dem.sampleIndex = (edge w).timingIndex ∧ t.dem.syncSampleIndex = (edge w).timingIndex ∧ t.dem.syncWordType = tag ∧
      t.dem.missingSyncCount = 0 ∧ t.dem.syncCount = 0 ∧ t.dem.needClockReset = true
    let retaken := fun (w : SynSel) (sign : SyncSign) (tag : SyncType) =>
      t.dem.syncWordType = tag ∧
      (((edge w).updated = sign ∧ 70 < n ∧ t.dem.missingSyncCount = 0 ∧
          t.dem.syncSampleIndex = (edge w).timingIndex) ∨
       ((edge w).updated ≠ sign ∧ 87 < n ∧ misses < 8 ∧ (carrierKept → t.dem.missingSyncCount = misses)))
    let givenUp := fun (w : SynSel) (sign : SyncSign) =>
      (edge w).updated ≠ sign ∧ 87 < n ∧ 8 ≤ misses ∧ t.dem.missingSyncCount = 0
    let complete := corIndex cor = at_ ∧ s.frm.count = 366 ∧ t.frm.count = 0 ∧ t.dem.needClockUpdate = true
    (s.dem.dcd = true ∧ t.dem.dcd = false ∧ t.dem.state = .unlocked ∧ s.dem.pollCount = 959 ∧
      (dcdUpdate m17core (dcdSample m17core r s.dcd)).locked = false ∧
      t.fd.state = .lsf ∧ t.fd.lichMask = 0 ∧ t.fd.lsf = Vector.replicate 30 0 ∧ t.fd.cost = 0 ∧
      t.dem.missingSyncCount = 0 ∧ t.dem.costCount = 0) ∨
    (match s.dem.state, t.dem.state with
     | .unlocked, .lsfSync =>
       if s.dem.missingSyncCount < 1920 then (edge .preamble).updated ≠ .zero ∧ found .preamble s.dem.syncWordType
       else if (edge .lsf).updated ≠ .zero then found .lsf s.dem.syncWordType
       else (edge .packet).updated = .plus ∧ found .packet s.dem.syncWordType
     | .unlocked, .frame =>
       1920 ≤ s.dem.missingSyncCount ∧ (edge .lsf).updated = .zero ∧ (edge .packet).updated = .minus ∧ found .packet .bert
     | .lsfSync, .frame =>
       corIndex cor = at_ ∧ strong .preamble = false ∧
       (if strong .lsf = true then t.dem.syncWordType = (if 0 < value .lsf then .lsf else .stream)
        else strong .packet = true ∧ t.dem.syncWordType = (if 0 < value .packet then .packet else .bert)) ∧
       t.dem.missingSyncCount = 0 ∧ t.dem.needClockUpdate = true ∧ t.dem.syncSampleIndex = at_
     | .lsfSync, .unlocked =>
       corIndex cor = at_ ∧ strong .preamble = false ∧ strong .lsf = false ∧ strong .packet = false ∧ 192 ≤ misses ∧
       t.fd = cleared s.fd ∧ t.dem.missingSyncCount = 0
     | .streamSync, .frame => retaken .lsf .minus .stream
     | .packetSync, .frame => retaken .packet .plus .packet
     | .bertSync, .frame => retaken .packet .minus .bert
     | .streamSync, .lsfSync => givenUp .lsf .minus ∧ (carrierKept → t.fd = s.fd)
     | .packetSync, .unlocked => givenUp .packet .plus ∧ t.fd = cleared s.fd
     | .bertSync, .unlocked => givenUp .packet .minus ∧ t.fd = cleared s.fd
     | .frame, .lsfSync => complete ∧ strikes ≤ 75 ∧ o.result = .eos
     | .frame, .streamSync => complete ∧ strikes ≤ 75 ∧ o.result ≠ .eos ∧ (o.fd.state = .lsf ∨ o.fd.state = .stream)
     | .frame, .packetSync =>
       complete ∧ strikes ≤ 75 ∧ o.result ≠ .eos ∧ (o.fd.state = .basicPacket ∨ o.fd.state = .fullPacket)
     | .frame, .bertSync => complete ∧ strikes ≤ 75 ∧ o.result ≠ .eos ∧ o.fd.state = .bert
     | .frame, .unlocked => complete ∧ 75 < strikes ∧ t.fd = cleared o.fd ∧ t.dem.costCount = 0
     | _, _ => False)

/-- Rules R280, R281: the search in UNLOCKED.  The preamble detector alone is stepped for 1920 samples, counted; after that
the other two, LSF/STREAM first; a detection goes to LSF_SYNC, or for BERT to FRAME with the tag BERT; without one the
state stays. -/
def Obligations.UnlockedSearchOrder : Prop :=
  ∀ (y : RealVal) (accept : Bool) (s : State), s.dem.state = .unlocked →
    let t := demHandler m17core y accept s
    let pre := synStep m17core s.cor .preamble s.synPreamble
    let lsf := synStep m17core s.cor .lsf s.synLsf
    let pkt := synStep m17core s.cor .packet s.synPacket
    let sent := fun (i : Fin 10) (next : DemodState) (tag : SyncType) =>
      t.dem.state = next ∧ t.dem.sampleIndex = i ∧ t.dem.syncSampleIndex = i ∧ t.dem.syncWordType = tag ∧
      t.dem.missingSyncCount = 0 ∧ t.dem.syncCount = 0 ∧ t.dem.needClockReset = true
    (s.dem.missingSyncCount < 1920 →
      t.synPreamble = { pre with updated := .zero } ∧ t.synLsf = s.synLsf ∧ t.synPacket = s.synPacket ∧
      (if pre.updated = .zero then
        t.dem = { s.dem with missingSyncCount := s.dem.missingSyncCount + 1 }
      else sent pre.timingIndex .lsfSync s.dem.syncWordType)) ∧
    (1920 ≤ s.dem.missingSyncCount →
      t.synPreamble = s.synPreamble ∧ t.synLsf = { lsf with updated := .zero } ∧
      t.synPacket = { pkt with updated := .zero } ∧
      (if lsf.updated ≠ .zero then sent lsf.timingIndex .lsfSync s.dem.syncWordType
       else if pkt.updated = .minus then sent pkt.timingIndex .frame .bert
       else if pkt.updated = .plus then sent pkt.timingIndex .lsfSync s.dem.syncWordType
       else t.dem = s.dem))

/-- Rules R283, R284: the tests of LSF_SYNC at the chosen phase: a strong preamble holds; then LSF/STREAM, then PACKET/BERT
take the frame with the tag by detector and sign; else a miss, and the 192nd gives up and resets the frame decoder. -/
def Obligations.LsfSyncTestsInOrder : Prop :=
  ∀ (y : RealVal) (accept : Bool) (s : State), s.dem.state = .lsfSync →
    let t := demHandler m17core y accept s
    let value := synTriggered m17core s.cor
    let strong := fun w => synStrong m17core s.cor w (value w)
    let taken := fun (tag : SyncType) =>
      t.dem = { s.dem with
        state := .frame, syncWordType := tag, missingSyncCount := 0, needClockUpdate := true
        syncSampleIndex := s.dem.sampleIndex } ∧ t.fd = s.fd
    if corIndex s.cor ≠ s.dem.sampleIndex ∨ strong .preamble = true then t = s
    else if strong .lsf = true then taken (if 0 < value .lsf then .lsf else .stream)
    else if strong .packet = true then taken (if 0 < value .packet then .packet else .bert)
    else if s.dem.missingSyncCount + 1 < 192 then
      t = { s with dem := { s.dem with missingSyncCount := s.dem.missingSyncCount + 1 } }
    else t.dem = { s.dem with state := .unlocked, missingSyncCount := 0 } ∧
      t.fd = { s.fd with state := .lsf, lichMask := 0, lsf := Vector.replicate 30 0, cost := 0 }

/-- Rules R285, R290, R291: one sample in a re-sync state: its own edge after the minimum dwell takes the next frame, at or
before it only clears the miss counter; past the maximum dwell a miss coasts into the next frame, and the eighth gives up:
STREAM_SYNC to LSF_SYNC, the others to UNLOCKED with the frame decoder reset. -/
def Obligations.ResyncWindowOfEachState : Prop :=
  ∀ (y : RealVal) (accept : Bool) (s : State) (w : SynSel) (sign : SyncSign) (tag : SyncType) (fallback : DemodState),
    (s.dem.state, w, sign, tag, fallback) ∈
      [ (DemodState.streamSync, SynSel.lsf, SyncSign.minus, SyncType.stream, DemodState.lsfSync),
        (.packetSync, .packet, .plus, .packet, .unlocked),
        (.bertSync, .packet, .minus, .bert, .unlocked) ] →
    let t := demHandler m17core y accept s
    let edge := synStep m17core s.cor w (s.syn w)
    let n := s.dem.syncCount + 1
    t.syn w = { edge with updated := .zero } ∧
    (if edge.updated = sign then
      if 70 < n then
        t.dem = { s.dem with
          syncCount := n, missingSyncCount := 0, syncWordType := tag, state := .frame
          syncSampleIndex := edge.timingIndex } ∧ t.fd = s.fd
      else t.dem = { s.dem with syncCount := n, missingSyncCount := 0 } ∧ t.fd = s.fd
    else if 87 < n then
      if s.dem.missingSyncCount + 1 < 8 then
        t.dem = { s.dem with
          syncCount := n, missingSyncCount := s.dem.missingSyncCount + 1, syncWordType := tag, state := .frame } ∧
        t.fd = s.fd
      else t.dem = { s.dem with syncCount := n, missingSyncCount := 0, state := fallback } ∧
        t.fd = if fallback = .unlocked then
          { s.fd with state := .lsf, lichMask := 0, lsf := Vector.replicate 30 0, cost := 0 } else s.fd
    else t.dem = { s.dem with syncCount := n } ∧ t.fd = s.fd)

/-- Rules R292, R294 to R297: one sample in FRAME.  At another phase nothing changes.  At the chosen phase the two LLRs of the
soft symbol, the sample less the offset, scaled, and negated when the configured polarity is negative, go into the next two
places of the frame, and before the frame is complete nothing else changes.  The completed frame is decoded with the current
tag; a cost up to 90 clears the strikes, above 90, 100 and 110 it adds one, two and three; more than 75 force UNLOCKED and
reset the frame decoder whatever the result; otherwise the next state follows the result and the decoder's state.  (What the
dwell counter holds when the strikes force UNLOCKED is log entry 23; the statement leaves it open.) -/
def Obligations.CompletedFrameStrikesOrGoesOn : Prop :=
  ∀ (y : RealVal) (accept : Bool) (s : State), s.dem.state = .frame →
    let t := demHandler m17core y accept s
    let level := (y - s.dev.offset) * s.dev.idev * (if s.cfg.polarityNeg then -1 else 1)
    let a := (m17core.llrMap level).1
    let b := (m17core.llrMap level).2
    (corIndex s.cor ≠ s.dem.sampleIndex → t = s) ∧
    (corIndex s.cor = s.dem.sampleIndex → s.frm.count < 366 → ∃ buf : Vector Llr 368,
      (∀ k : Fin 368, buf[k] = if k.val = s.frm.count then a else if k.val = s.frm.count + 1 then b else s.frm.buf[k]) ∧
      t = { s with frm := { buf := buf, count := s.frm.count + 2 } }) ∧
    (corIndex s.cor = s.dem.sampleIndex → s.frm.count = 366 →
      let frame := s.frm.buf.toList.take 366 ++ [a, b]
      let o := fdDecode m17core s.dem.syncWordType accept frame s.fd s.vit
      let strikes :=
        if o.cost ≤ 90 then 0 else s.dem.costCount + (if o.cost ≤ 100 then 1 else if o.cost ≤ 110 then 2 else 3)
      t = { s with frm := t.frm, fd := t.fd, vit := o.vit, dem := t.dem, rsp := s.rsp ++ o.event } ∧
      t.frm.count = 0 ∧ t.frm.buf.toList = frame ∧
      (if 75 < strikes then
        t.dem = { s.dem with
          needClockUpdate := true, viterbiCost := o.cost, costCount := 0, missingSyncCount := 0, state := .unlocked
          syncCount := t.dem.syncCount } ∧
        t.fd = { o.fd with state := .lsf, lichMask := 0, lsf := Vector.replicate 30 0, cost := 0 }
      else
        t.fd = o.fd ∧
        t.dem = { s.dem with
          needClockUpdate := true, viterbiCost := o.cost, costCount := strikes, syncCount := 0
          state :=
            if o.result = .eos then .lsfSync
            else match o.fd.state with
              | .lsf => .streamSync
              | .stream => .streamSync
              | .bert => .bertSync
              | .basicPacket => .packetSync
              | .fullPacket => .packetSync }))

/-- Rules R276, R277, R300, R301: the carrier poll and the diagnostics tick after the handler.  Both counters run modulo
their period; a poll that turns the carrier on resets DEV, FRM and FD and primes a clock reset without a change of state,
one that turns it off forces UNLOCKED and resets FD; nothing else changes.  A diagnostics record is appended on a transition
and on the cadence, and only when enabled; two of one sample are the transition's and the cadence's.  Its payload (rule R88) is
read after the changes of the transition, so it shows the new carrier decision and, after a carrier loss, the state UNLOCKED:
the word of the fields, then `DEV.error`, `DEV.deviation`, `DEV.offset` and `CLK.clock` as binary32, then the Viterbi cost.
(Both periods are general knowledge: log entry 5.) -/
def Obligations.CarrierPollAndDiagnosticsCadence : Prop :=
  ∀ s : State, s.dem.pollCount < 960 → s.dem.diagCount < 960 →
    let t := diagTick m17core (dcdPoll m17core s)
    let locked := (dcdUpdate m17core s.dcd).locked
    let poll : Bool := s.dem.pollCount = 959
    let on := poll && !s.dem.dcd && locked
    let off := poll && s.dem.dcd && !locked
    let fdReset := { s.fd with state := .lsf, lichMask := 0, lsf := Vector.replicate 30 0, cost := 0 }
    let records :=
      if s.cfg.diagEnable then (if on || off then 1 else 0) + (if s.dem.diagCount = 959 then 1 else 0) else 0
    ∃ w : Word32,
      t = { s with
        dcd := if poll then dcdUpdate m17core s.dcd else s.dcd
        dem := { s.dem with
          pollCount := (s.dem.pollCount + 1) % 960
          diagCount := (s.dem.diagCount + 1) % 960
          dcd := if on then true else if off then false else s.dem.dcd
          state := if off then .unlocked else s.dem.state
          missingSyncCount := if on || off then 0 else s.dem.missingSyncCount
          costCount := if on || off then 0 else s.dem.costCount
          syncCount := if on then 0 else s.dem.syncCount
          needClockReset := on || s.dem.needClockReset }
        dev := if on then State.reset.dev else s.dev
        frm := if on then { s.frm with count := 0 } else s.frm
        fd := if on || off then fdReset else s.fd
        rsp := s.rsp ++ (List.replicate records
          [0xF1000006, w, f32OfReal t.dev.error, f32OfReal t.dev.deviation, f32OfReal t.dev.offset, f32OfReal t.clk.clock,
            BitVec.ofNat 32 t.dem.viterbiCost]).flatten } ∧
      w.getLsbD 0 = t.dem.dcd ∧ w.extractLsb' 1 3 = 0 ∧ w.extractLsb' 4 3 = BitVec.ofNat 3 (demodCode t.dem.state) ∧
      w.getLsbD 7 = false ∧ w.extractLsb' 8 2 = BitVec.ofNat 2 (syncTypeCode t.dem.syncWordType) ∧
      w.extractLsb' 10 2 = 0 ∧ w.extractLsb' 12 4 = BitVec.ofNat 4 t.dem.sampleIndex.val ∧
      w.extractLsb' 16 4 = BitVec.ofNat 4 t.dem.syncSampleIndex.val ∧ w.extractLsb' 20 12 = 0

/-! ## Encode path -/

/-- Rules R306 to R310, R312, R314: each frame builder completes whatever the payload, leaves the encoder at 0 and changes
nothing else; the four frames have 368 bits and undo to the punctured coded bits (behind the LICH in a stream frame); the
LICH has 96.  (The length 368 rests on the masks, which are general knowledge: log entry 5.) -/
def Obligations.EncodeOperationsBuildFrames : Prop :=
  let undone := fun frame => deinterleave false (randomize m17core.randSeq frame)
  (∀ (l : List Byte) (s : State), l.length = 30 → ∃ frame : List Bool,
    exec (.encLsf l) s = .next { s with cnvMem := 0, rsp := s.rsp ++ (0xA000000C :: packBits frame) } ∧
    frame.length = 368 ∧ undone frame = puncture (convEncode (bitsOfBytes l)) (m17core.mask .p1) 368) ∧
  (∀ (n : BitVec 3) (f : List Byte) (s : State), f.length = 5 → n.toNat ≤ 5 → ∃ lich : List Bool,
    exec (.encLich n f) s = .next { s with rsp := s.rsp ++ (0xA1000003 :: packBits lich) } ∧ lich.length = 96 ∧
    ∀ c < 4, (lich.drop (24 * c)).take 24 =
      bitsOf (golayEnc24 (BitVec.ofNat 12 (natOfBits (((bitsOfBytes f ++ bitsOf n ++ List.replicate 5 false).drop
        (12 * c)).take 12))))) ∧
  (∀ (b : List Byte) (s : State), b.length = 30 → ∃ frame : List Bool,
    exec (.encStream b) s = .next { s with cnvMem := 0, rsp := s.rsp ++ (0xA200000C :: packBits frame) } ∧
    frame.length = 368 ∧
    undone frame = bitsOfBytes (b.take 12) ++ puncture (convEncode (bitsOfBytes (b.drop 12))) (m17core.mask .p2) 272) ∧
  (∀ (b : List Byte) (s : State), b.length = 26 → ∃ frame : List Bool,
    exec (.encPacket b) s = .next { s with cnvMem := 0, rsp := s.rsp ++ (0xA300000C :: packBits frame) } ∧
    frame.length = 368 ∧
    undone frame = puncture (convEncode ((bitsOfBytes b).take 206)) (m17core.mask .p3) 368) ∧
  (∀ (b : List Byte) (s : State), b.length = 25 → ∃ frame : List Bool,
    exec (.encBert b) s = .next { s with cnvMem := 0, rsp := s.rsp ++ (0xA400000C :: packBits frame) } ∧
    frame.length = 368 ∧
    undone frame = puncture (convEncode ((bitsOfBytes b).take 197)) (m17core.mask .p2) 368)
end

