-- ==== Sys2Proof/Laws/Bits.lean ====
section
/-! SUPPORT. How many words the packing of spec/20_memory.md rules R62 and R63 makes. -/

namespace Sys2Proof.Machine

open Sys2Proof

theorem chunksAux_length {α : Type} {k : Nat} (hk : 0 < k) (fuel : Nat) (xs : List α) (h : xs.length ≤ fuel) :
    (chunksAux k fuel xs).length = ceilDiv xs.length k := by
  induction fuel generalizing xs with
  | zero =>
    have hx : xs = [] := List.eq_nil_of_length_eq_zero (by omega)
    subst hx
    simpa [chunksAux, ceilDiv] using (Nat.div_eq_of_lt (by omega : k - 1 < k)).symm
  | succ fuel ih =>
    cases xs with
    | nil => simpa [chunksAux, ceilDiv] using (Nat.div_eq_of_lt (by omega : k - 1 < k)).symm
    | cons x xs =>
      have hl : ((x :: xs).drop k).length ≤ fuel := by
        simp only [List.length_drop, List.length_cons] at h ⊢
        omega
      simp only [chunksAux, List.length_cons, ih _ hl, List.length_drop]
      unfold ceilDiv
      rcases Nat.lt_or_ge xs.length k with hlt | hge
      · have e : xs.length + 1 - k + k - 1 = k - 1 ∨ xs.length + 1 - k + k - 1 = k := by omega
        have h1 : xs.length + 1 + k - 1 = xs.length + k := by omega
        rw [h1, Nat.add_div_right _ hk]
        rcases Nat.lt_or_ge (xs.length + 1) k with h2 | h2
        · rw [show xs.length + 1 - k + k - 1 = k - 1 by omega, Nat.div_eq_of_lt (by omega : k - 1 < k),
            Nat.div_eq_of_lt (by omega : xs.length < k)]
        · rw [show xs.length + 1 - k + k - 1 = xs.length by omega]
      · rw [show xs.length + 1 + k - 1 = xs.length + k by omega, Nat.add_div_right _ hk,
          show xs.length + 1 - k + k - 1 = xs.length by omega]

theorem chunks_length {α : Type} {k : Nat} (hk : 0 < k) (xs : List α) :
    (chunks k xs).length = ceilDiv xs.length k :=
  chunksAux_length hk _ _ (Nat.le_refl _)

@[simp] theorem packBytes_length (bytes : List Byte) : (packBytes bytes).length = (bytes.length + 3) / 4 := by
  simp [packBytes, chunks_length, ceilDiv]

@[simp] theorem bytesOfBits_length (bs : List Bool) : (bytesOfBits bs).length = (bs.length + 7) / 8 := by
  simp [bytesOfBits, chunks_length, ceilDiv]

@[simp] theorem packBits_length (bs : List Bool) : (packBits bs).length = (bs.length + 31) / 32 := by
  simp only [packBits, packBytes_length, bytesOfBits_length]
  omega

end Sys2Proof.Machine
end

