-- ==== Sys2Proof/Laws/State.lean ====
section
/-! SUPPORT. What each named update of the state does to each field: one lemma per field, all for `simp`. -/

namespace Sys2Proof.Machine

open Sys2Proof

/-! ### append -/

@[simp] theorem append_rsp (ws : List Word32) (s : State) : (append ws s).rsp = s.rsp ++ ws := rfl
@[simp] theorem append_input (ws : List Word32) (s : State) : (append ws s).input = s.input := rfl
@[simp] theorem append_cmdIndex (ws : List Word32) (s : State) : (append ws s).cmdIndex = s.cmdIndex := rfl
@[simp] theorem append_core (ws : List Word32) (s : State) : (append ws s).core = s.core := rfl
@[simp] theorem append_cfg (ws : List Word32) (s : State) : (append ws s).cfg = s.cfg := rfl
@[simp] theorem append_crc (ws : List Word32) (s : State) : (append ws s).crc = s.crc := rfl
@[simp] theorem append_cnvMem (ws : List Word32) (s : State) : (append ws s).cnvMem = s.cnvMem := rfl
@[simp] theorem append_vit (ws : List Word32) (s : State) : (append ws s).vit = s.vit := rfl
@[simp] theorem append_cor (ws : List Word32) (s : State) : (append ws s).cor = s.cor := rfl
@[simp] theorem append_synPreamble (ws : List Word32) (s : State) : (append ws s).synPreamble = s.synPreamble := rfl
@[simp] theorem append_synLsf (ws : List Word32) (s : State) : (append ws s).synLsf = s.synLsf := rfl
@[simp] theorem append_synPacket (ws : List Word32) (s : State) : (append ws s).synPacket = s.synPacket := rfl
@[simp] theorem append_dcd (ws : List Word32) (s : State) : (append ws s).dcd = s.dcd := rfl
@[simp] theorem append_clk (ws : List Word32) (s : State) : (append ws s).clk = s.clk := rfl
@[simp] theorem append_dev (ws : List Word32) (s : State) : (append ws s).dev = s.dev := rfl
@[simp] theorem append_frm (ws : List Word32) (s : State) : (append ws s).frm = s.frm := rfl
@[simp] theorem append_fd (ws : List Word32) (s : State) : (append ws s).fd = s.fd := rfl
@[simp] theorem append_dem (ws : List Word32) (s : State) : (append ws s).dem = s.dem := rfl

/-! ### respond -/

@[simp] theorem respond_rsp (op status : BitVec 8) (vs : List Word32) (s : State) :
    (respond op status vs s).rsp = s.rsp ++ recordWords op status vs := rfl
@[simp] theorem respond_input (op status : BitVec 8) (vs : List Word32) (s : State) :
    (respond op status vs s).input = s.input := rfl
@[simp] theorem respond_cmdIndex (op status : BitVec 8) (vs : List Word32) (s : State) :
    (respond op status vs s).cmdIndex = s.cmdIndex := rfl
@[simp] theorem respond_core (op status : BitVec 8) (vs : List Word32) (s : State) :
    (respond op status vs s).core = s.core := rfl
@[simp] theorem respond_cfg (op status : BitVec 8) (vs : List Word32) (s : State) :
    (respond op status vs s).cfg = s.cfg := rfl
@[simp] theorem respond_crc (op status : BitVec 8) (vs : List Word32) (s : State) :
    (respond op status vs s).crc = s.crc := rfl
@[simp] theorem respond_cnvMem (op status : BitVec 8) (vs : List Word32) (s : State) :
    (respond op status vs s).cnvMem = s.cnvMem := rfl
@[simp] theorem respond_vit (op status : BitVec 8) (vs : List Word32) (s : State) :
    (respond op status vs s).vit = s.vit := rfl
@[simp] theorem respond_cor (op status : BitVec 8) (vs : List Word32) (s : State) :
    (respond op status vs s).cor = s.cor := rfl
@[simp] theorem respond_synPreamble (op status : BitVec 8) (vs : List Word32) (s : State) :
    (respond op status vs s).synPreamble = s.synPreamble := rfl
@[simp] theorem respond_synLsf (op status : BitVec 8) (vs : List Word32) (s : State) :
    (respond op status vs s).synLsf = s.synLsf := rfl
@[simp] theorem respond_synPacket (op status : BitVec 8) (vs : List Word32) (s : State) :
    (respond op status vs s).synPacket = s.synPacket := rfl
@[simp] theorem respond_dcd (op status : BitVec 8) (vs : List Word32) (s : State) :
    (respond op status vs s).dcd = s.dcd := rfl
@[simp] theorem respond_clk (op status : BitVec 8) (vs : List Word32) (s : State) :
    (respond op status vs s).clk = s.clk := rfl
@[simp] theorem respond_dev (op status : BitVec 8) (vs : List Word32) (s : State) :
    (respond op status vs s).dev = s.dev := rfl
@[simp] theorem respond_frm (op status : BitVec 8) (vs : List Word32) (s : State) :
    (respond op status vs s).frm = s.frm := rfl
@[simp] theorem respond_fd (op status : BitVec 8) (vs : List Word32) (s : State) :
    (respond op status vs s).fd = s.fd := rfl
@[simp] theorem respond_dem (op status : BitVec 8) (vs : List Word32) (s : State) :
    (respond op status vs s).dem = s.dem := rfl

/-! ### takeFault -/

@[simp] theorem takeFault_rsp (c : FaultCause) (w : Word32) (s : State) :
    (takeFault c w s).rsp = s.rsp ++ recordWords 0xFF (faultCodeOf c) [w] := rfl
@[simp] theorem takeFault_core (c : FaultCause) (w : Word32) (s : State) :
    (takeFault c w s).core = { faultCode := faultCodeOf c, faultCmd := w } := rfl
@[simp] theorem takeFault_input (c : FaultCause) (w : Word32) (s : State) : (takeFault c w s).input = s.input := rfl
@[simp] theorem takeFault_cmdIndex (c : FaultCause) (w : Word32) (s : State) :
    (takeFault c w s).cmdIndex = s.cmdIndex := rfl
@[simp] theorem takeFault_cfg (c : FaultCause) (w : Word32) (s : State) : (takeFault c w s).cfg = s.cfg := rfl
@[simp] theorem takeFault_crc (c : FaultCause) (w : Word32) (s : State) : (takeFault c w s).crc = s.crc := rfl
@[simp] theorem takeFault_cnvMem (c : FaultCause) (w : Word32) (s : State) :
    (takeFault c w s).cnvMem = s.cnvMem := rfl
@[simp] theorem takeFault_vit (c : FaultCause) (w : Word32) (s : State) : (takeFault c w s).vit = s.vit := rfl
@[simp] theorem takeFault_cor (c : FaultCause) (w : Word32) (s : State) : (takeFault c w s).cor = s.cor := rfl
@[simp] theorem takeFault_synPreamble (c : FaultCause) (w : Word32) (s : State) :
    (takeFault c w s).synPreamble = s.synPreamble := rfl
@[simp] theorem takeFault_synLsf (c : FaultCause) (w : Word32) (s : State) :
    (takeFault c w s).synLsf = s.synLsf := rfl
@[simp] theorem takeFault_synPacket (c : FaultCause) (w : Word32) (s : State) :
    (takeFault c w s).synPacket = s.synPacket := rfl
@[simp] theorem takeFault_dcd (c : FaultCause) (w : Word32) (s : State) : (takeFault c w s).dcd = s.dcd := rfl
@[simp] theorem takeFault_clk (c : FaultCause) (w : Word32) (s : State) : (takeFault c w s).clk = s.clk := rfl
@[simp] theorem takeFault_dev (c : FaultCause) (w : Word32) (s : State) : (takeFault c w s).dev = s.dev := rfl
@[simp] theorem takeFault_frm (c : FaultCause) (w : Word32) (s : State) : (takeFault c w s).frm = s.frm := rfl
@[simp] theorem takeFault_fd (c : FaultCause) (w : Word32) (s : State) : (takeFault c w s).fd = s.fd := rfl
@[simp] theorem takeFault_dem (c : FaultCause) (w : Word32) (s : State) : (takeFault c w s).dem = s.dem := rfl

/-! ### consume -/

@[simp] theorem consume_input (n : Nat) (s : State) : (s.consume n).input = s.input.drop n := rfl
@[simp] theorem consume_cmdIndex (n : Nat) (s : State) : (s.consume n).cmdIndex = s.cmdIndex + n := rfl
@[simp] theorem consume_rsp (n : Nat) (s : State) : (s.consume n).rsp = s.rsp := rfl
@[simp] theorem consume_core (n : Nat) (s : State) : (s.consume n).core = s.core := rfl
@[simp] theorem consume_cfg (n : Nat) (s : State) : (s.consume n).cfg = s.cfg := rfl
@[simp] theorem consume_crc (n : Nat) (s : State) : (s.consume n).crc = s.crc := rfl
@[simp] theorem consume_cnvMem (n : Nat) (s : State) : (s.consume n).cnvMem = s.cnvMem := rfl
@[simp] theorem consume_vit (n : Nat) (s : State) : (s.consume n).vit = s.vit := rfl
@[simp] theorem consume_cor (n : Nat) (s : State) : (s.consume n).cor = s.cor := rfl
@[simp] theorem consume_synPreamble (n : Nat) (s : State) : (s.consume n).synPreamble = s.synPreamble := rfl
@[simp] theorem consume_synLsf (n : Nat) (s : State) : (s.consume n).synLsf = s.synLsf := rfl
@[simp] theorem consume_synPacket (n : Nat) (s : State) : (s.consume n).synPacket = s.synPacket := rfl
@[simp] theorem consume_dcd (n : Nat) (s : State) : (s.consume n).dcd = s.dcd := rfl
@[simp] theorem consume_clk (n : Nat) (s : State) : (s.consume n).clk = s.clk := rfl
@[simp] theorem consume_dev (n : Nat) (s : State) : (s.consume n).dev = s.dev := rfl
@[simp] theorem consume_frm (n : Nat) (s : State) : (s.consume n).frm = s.frm := rfl
@[simp] theorem consume_fd (n : Nat) (s : State) : (s.consume n).fd = s.fd := rfl
@[simp] theorem consume_dem (n : Nat) (s : State) : (s.consume n).dem = s.dem := rfl

/-! ### setSyn -/

@[simp] theorem setSyn_input (w : SynSel) (y : Syn) (s : State) : (s.setSyn w y).input = s.input := by cases w <;> rfl
@[simp] theorem setSyn_cmdIndex (w : SynSel) (y : Syn) (s : State) :
    (s.setSyn w y).cmdIndex = s.cmdIndex := by cases w <;> rfl
@[simp] theorem setSyn_rsp (w : SynSel) (y : Syn) (s : State) : (s.setSyn w y).rsp = s.rsp := by cases w <;> rfl
@[simp] theorem setSyn_core (w : SynSel) (y : Syn) (s : State) : (s.setSyn w y).core = s.core := by cases w <;> rfl
@[simp] theorem setSyn_cfg (w : SynSel) (y : Syn) (s : State) : (s.setSyn w y).cfg = s.cfg := by cases w <;> rfl
@[simp] theorem setSyn_crc (w : SynSel) (y : Syn) (s : State) : (s.setSyn w y).crc = s.crc := by cases w <;> rfl
@[simp] theorem setSyn_cnvMem (w : SynSel) (y : Syn) (s : State) :
    (s.setSyn w y).cnvMem = s.cnvMem := by cases w <;> rfl
@[simp] theorem setSyn_vit (w : SynSel) (y : Syn) (s : State) : (s.setSyn w y).vit = s.vit := by cases w <;> rfl
@[simp] theorem setSyn_cor (w : SynSel) (y : Syn) (s : State) : (s.setSyn w y).cor = s.cor := by cases w <;> rfl
@[simp] theorem setSyn_dcd (w : SynSel) (y : Syn) (s : State) : (s.setSyn w y).dcd = s.dcd := by cases w <;> rfl
@[simp] theorem setSyn_clk (w : SynSel) (y : Syn) (s : State) : (s.setSyn w y).clk = s.clk := by cases w <;> rfl
@[simp] theorem setSyn_dev (w : SynSel) (y : Syn) (s : State) : (s.setSyn w y).dev = s.dev := by cases w <;> rfl
@[simp] theorem setSyn_frm (w : SynSel) (y : Syn) (s : State) : (s.setSyn w y).frm = s.frm := by cases w <;> rfl
@[simp] theorem setSyn_fd (w : SynSel) (y : Syn) (s : State) : (s.setSyn w y).fd = s.fd := by cases w <;> rfl
@[simp] theorem setSyn_dem (w : SynSel) (y : Syn) (s : State) : (s.setSyn w y).dem = s.dem := by cases w <;> rfl
@[simp] theorem syn_setSyn (w : SynSel) (y : Syn) (s : State) : (s.setSyn w y).syn w = y := by cases w <;> rfl

theorem syn_setSyn_of_ne {v w : SynSel} (h : v ≠ w) (y : Syn) (s : State) : (s.setSyn w y).syn v = s.syn v := by
  cases v <;> cases w <;> first | rfl | exact absurd rfl h

@[simp] theorem syn_append (w : SynSel) (ws : List Word32) (s : State) :
    (append ws s).syn w = s.syn w := by cases w <;> rfl

/-! ### The two resets -/

@[simp] theorem resetRegisters_input (p : Params) (s : State) : (s.resetRegisters p).input = s.input := rfl
@[simp] theorem resetRegisters_cmdIndex (p : Params) (s : State) : (s.resetRegisters p).cmdIndex = s.cmdIndex := rfl
@[simp] theorem resetRegisters_rsp (p : Params) (s : State) : (s.resetRegisters p).rsp = s.rsp := rfl
@[simp] theorem resetRegisters_core (p : Params) (s : State) :
    (s.resetRegisters p).core = (State.resetFor p).core := rfl
@[simp] theorem resetRegisters_cfg (p : Params) (s : State) : (s.resetRegisters p).cfg = (State.resetFor p).cfg := rfl
@[simp] theorem resetRegisters_crc (p : Params) (s : State) : (s.resetRegisters p).crc = (State.resetFor p).crc := rfl
@[simp] theorem resetRegisters_cnvMem (p : Params) (s : State) :
    (s.resetRegisters p).cnvMem = (State.resetFor p).cnvMem := rfl
@[simp] theorem resetRegisters_vit (p : Params) (s : State) : (s.resetRegisters p).vit = (State.resetFor p).vit := rfl
@[simp] theorem resetRegisters_cor (p : Params) (s : State) : (s.resetRegisters p).cor = (State.resetFor p).cor := rfl
@[simp] theorem resetRegisters_synPreamble (p : Params) (s : State) :
    (s.resetRegisters p).synPreamble = (State.resetFor p).synPreamble := rfl
@[simp] theorem resetRegisters_synLsf (p : Params) (s : State) :
    (s.resetRegisters p).synLsf = (State.resetFor p).synLsf := rfl
@[simp] theorem resetRegisters_synPacket (p : Params) (s : State) :
    (s.resetRegisters p).synPacket = (State.resetFor p).synPacket := rfl
@[simp] theorem resetRegisters_dcd (p : Params) (s : State) : (s.resetRegisters p).dcd = (State.resetFor p).dcd := rfl
@[simp] theorem resetRegisters_clk (p : Params) (s : State) : (s.resetRegisters p).clk = (State.resetFor p).clk := rfl
@[simp] theorem resetRegisters_dev (p : Params) (s : State) : (s.resetRegisters p).dev = (State.resetFor p).dev := rfl
@[simp] theorem resetRegisters_frm (p : Params) (s : State) : (s.resetRegisters p).frm = (State.resetFor p).frm := rfl
@[simp] theorem resetRegisters_fd (p : Params) (s : State) : (s.resetRegisters p).fd = (State.resetFor p).fd := rfl
@[simp] theorem resetRegisters_dem (p : Params) (s : State) : (s.resetRegisters p).dem = (State.resetFor p).dem := rfl
@[simp] theorem hardReset_input (p : Params) (new : List HostInput) (s : State) :
    (s.hardReset p new).input = new := rfl
@[simp] theorem hardReset_cmdIndex (p : Params) (new : List HostInput) (s : State) :
    (s.hardReset p new).cmdIndex = 0 := rfl
@[simp] theorem hardReset_rsp (p : Params) (new : List HostInput) (s : State) : (s.hardReset p new).rsp = s.rsp := rfl
@[simp] theorem hardReset_core (p : Params) (new : List HostInput) (s : State) :
    (s.hardReset p new).core = (State.resetFor p).core := rfl
@[simp] theorem hardReset_cfg (p : Params) (new : List HostInput) (s : State) :
    (s.hardReset p new).cfg = (State.resetFor p).cfg := rfl
@[simp] theorem hardReset_crc (p : Params) (new : List HostInput) (s : State) :
    (s.hardReset p new).crc = (State.resetFor p).crc := rfl
@[simp] theorem hardReset_cnvMem (p : Params) (new : List HostInput) (s : State) :
    (s.hardReset p new).cnvMem = (State.resetFor p).cnvMem := rfl
@[simp] theorem hardReset_vit (p : Params) (new : List HostInput) (s : State) :
    (s.hardReset p new).vit = (State.resetFor p).vit := rfl
@[simp] theorem hardReset_cor (p : Params) (new : List HostInput) (s : State) :
    (s.hardReset p new).cor = (State.resetFor p).cor := rfl
@[simp] theorem hardReset_synPreamble (p : Params) (new : List HostInput) (s : State) :
    (s.hardReset p new).synPreamble = (State.resetFor p).synPreamble := rfl
@[simp] theorem hardReset_synLsf (p : Params) (new : List HostInput) (s : State) :
    (s.hardReset p new).synLsf = (State.resetFor p).synLsf := rfl
@[simp] theorem hardReset_synPacket (p : Params) (new : List HostInput) (s : State) :
    (s.hardReset p new).synPacket = (State.resetFor p).synPacket := rfl
@[simp] theorem hardReset_dcd (p : Params) (new : List HostInput) (s : State) :
    (s.hardReset p new).dcd = (State.resetFor p).dcd := rfl
@[simp] theorem hardReset_clk (p : Params) (new : List HostInput) (s : State) :
    (s.hardReset p new).clk = (State.resetFor p).clk := rfl
@[simp] theorem hardReset_dev (p : Params) (new : List HostInput) (s : State) :
    (s.hardReset p new).dev = (State.resetFor p).dev := rfl
@[simp] theorem hardReset_frm (p : Params) (new : List HostInput) (s : State) :
    (s.hardReset p new).frm = (State.resetFor p).frm := rfl
@[simp] theorem hardReset_fd (p : Params) (new : List HostInput) (s : State) :
    (s.hardReset p new).fd = (State.resetFor p).fd := rfl
@[simp] theorem hardReset_dem (p : Params) (new : List HostInput) (s : State) :
    (s.hardReset p new).dem = (State.resetFor p).dem := rfl

end Sys2Proof.Machine
end

