-- ==== Sys2Proof/Laws/Ops.lean ====
section
/-! SUPPORT. For each shared operation, one lemma that says everything it can do. -/

namespace Sys2Proof.Machine

open Sys2Proof

/-! ### Operands -/

theorem llrsOf_eq (bytes : List Byte) :
    llrsOf bytes = if bytes.all llrOk then some (bytes.map fun b => b.toInt) else none := rfl

theorem llrOk_iff (b : Byte) : llrOk b = true ↔ inLlrRange b := by
  have h : llrOk b = true ↔ b.toInt.natAbs ≤ 7 := decide_eq_true_iff
  rw [h]
  unfold inLlrRange
  omega

theorem llrsOf_of_inRange {bytes : List Byte} (h : ∀ b ∈ bytes, inLlrRange b) :
    llrsOf bytes = some (bytes.map fun b => b.toInt) := by
  rw [llrsOf_eq, if_pos (List.all_eq_true.2 fun b hb => (llrOk_iff b).2 (h b hb))]

theorem llrsOf_of_bad {bytes : List Byte} (h : ∃ b ∈ bytes, ¬ inLlrRange b) : llrsOf bytes = none := by
  obtain ⟨b, hb, hn⟩ := h
  rw [llrsOf_eq, if_neg]
  exact fun ha => hn ((llrOk_iff b).1 (List.all_eq_true.1 ha b hb))

theorem realOfF32_eq_none_iff (x : Word32) : realOfF32 x = none ↔ notFinite x := by
  have h : notFinite x ↔ (x.extractLsb' 23 8).toNat = 255 := BitVec.toNat_inj.symm
  rw [h]
  unfold realOfF32
  by_cases he : (x.extractLsb' 23 8).toNat = 255
  · exact ⟨fun _ => he, fun _ => if_pos he⟩
  · refine ⟨fun hn => absurd hn ?_, fun h' => absurd h' he⟩
    have hs : ∀ (a b : Option RealVal), (if (x.extractLsb' 23 8).toNat = 255 then a else b) = b := fun a b => if_neg he
    intro hn
    exact Option.some_ne_none _ ((hs _ _).symm.trans hn)

/-- An operation on one sample faults on an infinity or a NaN and otherwise answers what its continuation gives. -/
theorem withSample_cases (x w : Word32) (s : State) (k : RealVal → State) :
    (realOfF32 x = none ∧ withSample x w s k = .next (takeFault .badOperand w s)) ∨
    ∃ r, realOfF32 x = some r ∧ withSample x w s k = .next (k r) := by
  cases h : realOfF32 x with
  | none => exact .inl ⟨rfl, by simp [withSample, h]⟩
  | some r => exact .inr ⟨r, rfl, by simp [withSample, h]⟩

/-- INTERLEAVE and DEINTERLEAVE fault on a bad LLR and otherwise only respond. -/
theorem permuteFrame_cases (op : BitVec 8) (f : List Bool → List Bool) (g : List Llr → List Llr) (w : Word32)
    (x : FrameOperand) (s : State) :
    permuteFrame op f g w x s = .next (takeFault .badOperand w s) ∨
    ∃ vs, permuteFrame op f g w x s = .next (respond op statusOk vs s) := by
  cases x with
  | bits b => exact .inr ⟨_, rfl⟩
  | llrs l =>
    simp only [permuteFrame]
    cases llrsOf l with
    | none => exact .inl rfl
    | some ls => exact .inr ⟨_, rfl⟩

/-! ### The command stream and the step -/

@[simp] theorem pendingWords_map_word (ws : List Word32) (rest : List HostInput) :
    pendingWords (ws.map HostInput.word ++ rest) = ws ++ pendingWords rest := by
  induction ws with
  | nil => rfl
  | cons w ws ih => simp [pendingWords, ih]

@[simp] theorem afterHardReset_map_word (ws : List Word32) (rest : List HostInput) :
    afterHardReset (ws.map HostInput.word ++ rest) = afterHardReset rest := by
  induction ws with
  | nil => rfl
  | cons w ws ih => simp [afterHardReset, ih]

/-- `execFor` is `exec` for the parameters M17CORE takes. -/
@[simp] theorem execFor_m17core (i : Instr) (s : State) : execFor m17core i s = exec i s := by
  cases i <;> rfl

/-- `stepFor` is `step` for the parameters M17CORE takes. -/
@[simp] theorem stepFor_m17core (s : State) : stepFor m17core s = step s := by
  have h : execFor m17core = exec := funext fun i => funext fun s => execFor_m17core i s
  simp only [stepFor, step, h]

/-- The three things `runCommand` does. -/
theorem runCommand_cases (p : Params) (ex : Instr → State → Result) (s : State) :
    (∃ i n, decode (pendingWords s.input) = .instr i n ∧ runCommand p ex s = ex i (s.consume n)) ∨
    (∃ c w, decode (pendingWords s.input) = .reject c w ∧ runCommand p ex s = .next (takeFault c w (s.consume 1))) ∨
    (decode (pendingWords s.input) = .incomplete ∧ runCommand p ex s = resetOr p (.next s) s) := by
  cases h : decode (pendingWords s.input) with
  | instr i n => exact .inl ⟨i, n, rfl, by simp [runCommand, h]⟩
  | reject c w => exact .inr (.inl ⟨c, w, rfl, by simp [runCommand, h]⟩)
  | incomplete => exact .inr (.inr ⟨rfl, by simp [runCommand, h]⟩)

/-- The three things a step does: a halted core waits for a hard reset, an interrupted operation, a command. -/
theorem stepWith_cases (p : Params) (ex : Instr → State → Result) (s : State) :
    (s.faulted = true ∧ stepWith p ex s = resetOr p (.fault .halted) s) ∨
    (s.faulted = false ∧ ∃ k rest, s.input = .hardResetDuring k :: rest ∧
      stepWith p ex s = runInterrupted p ex k { s with input := rest }) ∨
    (s.faulted = false ∧ (∀ k rest, s.input ≠ .hardResetDuring k :: rest) ∧ stepWith p ex s = runCommand p ex s) := by
  cases hf : s.faulted with
  | true => exact .inl ⟨rfl, by simp [stepWith, hf]⟩
  | false =>
    cases hi : s.input with
    | nil => exact .inr (.inr ⟨rfl, by simp, by simp [stepWith, hf, hi]⟩)
    | cons a rest =>
      cases a with
      | word w => exact .inr (.inr ⟨rfl, by simp, by simp [stepWith, hf, hi]⟩)
      | hardReset => exact .inr (.inr ⟨rfl, by simp, by simp [stepWith, hf, hi]⟩)
      | hardResetDuring k => exact .inr (.inl ⟨rfl, k, rest, rfl, by simp [stepWith, hf, hi]⟩)

/-- `stepWith_cases` for the step of M17CORE. -/
theorem step_cases (s : State) :
    (s.faulted = true ∧ step s = resetOr m17core (.fault .halted) s) ∨
    (s.faulted = false ∧ ∃ k rest, s.input = .hardResetDuring k :: rest ∧
      step s = runInterrupted m17core exec k { s with input := rest }) ∨
    (s.faulted = false ∧ (∀ k rest, s.input ≠ .hardResetDuring k :: rest) ∧ step s = runCommand m17core exec s) :=
  stepWith_cases m17core exec s

/-! ### Recording a sync, the framer, the diagnostics, the carrier poll -/

/-- The identity estimator leaves the deviation unit alone (log entry 6). -/
theorem foldl_devSample (xs : List RealVal) (d : Dev) : xs.foldl m17core.devEst.sample d = d := by
  induction xs with
  | nil => rfl
  | cons x xs ih => exact ih

/-- `record_sync` writes four demodulator registers and, when full, resets the deviation unit. -/
theorem recordSync_eq (i : Fin 10) (full : Bool) (s : State) :
    recordSync m17core i full s =
      { s with
        dev := if full then devReset m17core else s.dev
        dem := { s.dem with
          needClockReset := full || s.dem.needClockReset
          sampleIndex := if full then i else s.dem.sampleIndex
          syncSampleIndex := i } } := by
  have h : ∀ (xs : List RealVal) (d : Dev), m17core.devEst.update (xs.foldl m17core.devEst.sample d) = d :=
    fun xs d => foldl_devSample xs d
  simp only [recordSync, h]

/-- A push either completes the frame and hands it over, or counts on by two. -/
theorem frmPush_cases (a b : Llr) (f : Frm) :
    (f.count + 2 = 368 ∧
      frmPush a b f = ({ buf := frmStore a b f, count := 0 }, some (frmStore a b f).toList)) ∨
    (f.count + 2 ≠ 368 ∧ frmPush a b f = ({ buf := frmStore a b f, count := f.count + 2 }, none)) := by
  by_cases h : f.count + 2 = 368
  · exact .inl ⟨h, by simp [frmPush, Config.FRAME_LLRS, h]⟩
  · exact .inr ⟨h, by simp [frmPush, Config.FRAME_LLRS, h]⟩

/-- A diagnostics event touches nothing but the response stream. -/
theorem diagEmit_eq (s : State) : diagEmit s = append (if s.cfg.diagEnable then diagEvent s else []) s := by
  unfold diagEmit
  split
  · rfl
  · simp [append]

/-- The four outcomes of a carrier poll. -/
theorem dcdPoll_cases (s : State) :
    (s.dem.pollCount + 1 ≠ 960 ∧
      dcdPoll m17core s = { s with dem := { s.dem with pollCount := s.dem.pollCount + 1 } }) ∨
    (s.dem.pollCount + 1 = 960 ∧
      let polled := { s with dcd := dcdUpdate m17core s.dcd, dem := { s.dem with pollCount := 0 } }
      (s.dem.dcd = false ∧ polled.dcd.locked = true ∧ dcdPoll m17core s = dcdOn m17core polled) ∨
      (s.dem.dcd = true ∧ polled.dcd.locked = false ∧ dcdPoll m17core s = dcdOff polled) ∨
      (s.dem.dcd = polled.dcd.locked ∧ dcdPoll m17core s = polled)) := by
  by_cases h : s.dem.pollCount + 1 = 960
  · refine .inr ⟨h, ?_⟩
    have hp : s.dem.pollCount + 1 = m17core.dcdPoll := h
    cases hd : s.dem.dcd <;> cases hl : (dcdUpdate m17core s.dcd).locked <;> simp [dcdPoll, hp, hd, hl]
  · have hp : s.dem.pollCount + 1 ≠ m17core.dcdPoll := h
    exact .inl ⟨h, by simp [dcdPoll, hp]⟩

/-- The three outcomes of the clock housekeeping. -/
theorem clockHousekeeping_cases (s : State) :
    (s.dem.needClockReset = true ∧
      clockHousekeeping s = { s with clk := clkReset s.clk, dem := { s.dem with needClockReset := false } }) ∨
    (s.dem.needClockReset = false ∧ s.dem.needClockUpdate = true ∧
      clockHousekeeping s = { s with
        clk := clkUpdate s.clk
        dem := { s.dem with
          needClockUpdate := false
          sampleIndex := reconcile (clkUpdate s.clk).sampleIndex s.dem.syncSampleIndex s.dem.sampleIndex } }) ∨
    (s.dem.needClockReset = false ∧ s.dem.needClockUpdate = false ∧ clockHousekeeping s = s) := by
  cases hr : s.dem.needClockReset
  · cases hu : s.dem.needClockUpdate
    · exact .inr (.inr ⟨rfl, rfl, by simp [clockHousekeeping, hr, hu]⟩)
    · exact .inr (.inl ⟨rfl, rfl, by simp [clockHousekeeping, hr, hu]⟩)
  · exact .inl ⟨rfl, by simp [clockHousekeeping, hr]⟩

/-- The three outcomes of a detector step. -/
theorem synStep_cases (p : Params) (c : Cor) (w : SynSel) (y : Syn) :
    (synTriggered p c w ≠ 0 ∧ synStep p c w y =
      { y with
        samples := (if y.triggered then y.samples else Vector.replicate 10 0).set (corIndex c).val
          (synTriggered p c w) (corIndex c).isLt
        triggered := true }) ∨
    (synTriggered p c w = 0 ∧ y.triggered = true ∧ synStep p c w y =
      { y with
        triggered := false
        timingIndex := (synPeak y.samples).1
        updated := if 0 < (synPeak y.samples).2 then .plus else .minus }) ∨
    (synTriggered p c w = 0 ∧ y.triggered = false ∧ synStep p c w y = y) := by
  by_cases h : synTriggered p c w = 0
  · cases ht : y.triggered
    · exact .inr (.inr ⟨h, rfl, by simp [synStep, h, ht]⟩)
    · exact .inr (.inl ⟨h, rfl, by simp [synStep, h, ht]⟩)
  · exact .inl ⟨h, by simp [synStep, h]⟩

end Sys2Proof.Machine
end

