-- ==== Sys2Proof/Laws/PerInstr.lean ====
section
/-! SUPPORT. Lemmas made once per instruction.  `PayloadLength`: the encoder writes as many payload words as
spec/30_encoding.md rule R82 gives for the command word it writes. -/

namespace Sys2Proof.Laws.PayloadLength

open Sys2Proof Sys2Proof.Machine

def Statement (i : Instr) : Prop :=
  i.wellFormed = true → payloadLength (commandWord i) = (payloadWords i).length

/-! ### The fields of a command word -/

theorem command_toNat (op : BitVec 8) {arg : Nat} (h : arg < 2 ^ 24) :
    (command op arg).toNat = op.toNat * 2 ^ 24 + arg := by
  simp only [command, BitVec.toNat_append, BitVec.toNat_ofNat, Nat.mod_eq_of_lt h]
  rw [← Nat.shiftLeft_add_eq_or_of_lt h, Nat.shiftLeft_eq]

theorem opOf_command (op : BitVec 8) (arg : Nat) : opOf (command op arg) = op := by
  apply BitVec.eq_of_toNat_eq
  have h : arg % 2 ^ 24 < 2 ^ 24 := Nat.mod_lt _ (by decide)
  have e : command op arg = command op (arg % 2 ^ 24) :=
    congrArg (op ++ ·) (BitVec.eq_of_toNat_eq (by simp))
  have ho := op.isLt
  rw [e, opOf, BitVec.extractLsb'_toNat, command_toNat op h, Nat.shiftRight_eq_div_pow]
  omega

theorem field9_command (op : BitVec 8) {arg : Nat} (h : arg < 2 ^ 24) :
    ((command op arg).extractLsb' 0 9).toNat = arg % 2 ^ 9 := by
  rw [BitVec.extractLsb'_toNat, command_toNat op h, Nat.shiftRight_eq_div_pow]
  omega

theorem field16_command (op : BitVec 8) {arg : Nat} (h : arg < 2 ^ 24) :
    ((command op arg).extractLsb' 0 16).toNat = arg % 2 ^ 16 := by
  rw [BitVec.extractLsb'_toNat, command_toNat op h, Nat.shiftRight_eq_div_pow]
  omega

theorem fieldIn_command (op : BitVec 8) {arg : Nat} (h : arg < 2 ^ 24) :
    ((command op arg).extractLsb' 10 10).toNat = arg / 2 ^ 10 % 2 ^ 10 := by
  rw [BitVec.extractLsb'_toNat, command_toNat op h, Nat.shiftRight_eq_div_pow]
  omega

/-! ### One lemma per instruction -/

theorem nop : Statement .nop := by
  intro _
  simp [payloadLength, commandWord, payloadWords, opOf_command]

theorem reset : Statement .reset := by
  intro _
  simp [payloadLength, commandWord, payloadWords, opOf_command]

theorem status : Statement .status := by
  intro _
  simp [payloadLength, commandWord, payloadWords, opOf_command]

theorem setCfg (p d : Bool) : Statement (.setCfg p d) := by
  intro _
  simp [payloadLength, commandWord, payloadWords, opOf_command]

theorem crcReset : Statement .crcReset := by
  intro _
  simp [payloadLength, commandWord, payloadWords, opOf_command]

theorem crcUpdate (b : Byte) : Statement (.crcUpdate b) := by
  intro _
  simp [payloadLength, commandWord, payloadWords, opOf_command]

theorem crcUpdaten (bytes : List Byte) : Statement (.crcUpdaten bytes) := by
  intro h
  simp only [Instr.wellFormed, Bool.and_eq_true, decide_eq_true_eq] at h
  have hb : bytes.length < 2 ^ 24 := by omega
  simp [payloadLength, commandWord, payloadWords, opOf_command, field16_command _ hb]
  omega

theorem crcFinal : Statement .crcFinal := by
  intro _
  simp [payloadLength, commandWord, payloadWords, opOf_command]

theorem crcBytes : Statement .crcBytes := by
  intro _
  simp [payloadLength, commandWord, payloadWords, opOf_command]

theorem golayEnc (d : BitVec 12) : Statement (.golayEnc d) := by
  intro _
  simp [payloadLength, commandWord, payloadWords, opOf_command]

theorem golayDec (w : BitVec 24) : Statement (.golayDec w) := by
  intro _
  simp [payloadLength, commandWord, payloadWords, opOf_command]

theorem convEnc (x : List Bool) : Statement (.convEnc x) := by
  intro h
  simp only [Instr.wellFormed, decide_eq_true_eq] at h
  simp only [Config.MAX_DATA] at h
  have hb : x.length < 2 ^ 24 := by omega
  simp [payloadLength, commandWord, payloadWords, opOf_command, field9_command _ hb]
  omega

theorem puncture (m : MaskSel) (nOut : BitVec 10) (x : List Bool) : Statement (.puncture m nOut x) := by
  intro h
  simp only [Instr.wellFormed, maskCountsOk, Bool.and_eq_true, decide_eq_true_eq] at h
  simp only [Config.MAX_CODED] at h
  have hm : m.code.toNat < 4 := m.code.isLt
  have hb : m.code.toNat * 2 ^ 20 + x.length * 2 ^ 10 + nOut.toNat < 2 ^ 24 := by omega
  have hp : ∀ arg, payloadLength (command 0x31 arg) =
      (((command 0x31 arg).extractLsb' 10 10).toNat + 31) / 32 := by
    intro arg
    simp [payloadLength, opOf_command]
  rw [commandWord, hp, fieldIn_command _ hb, payloadWords, packBits_length]
  omega

theorem depuncture (m : MaskSel) (nOut : BitVec 10) (y : List Byte) : Statement (.depuncture m nOut y) := by
  intro h
  simp only [Instr.wellFormed, maskCountsOk, Bool.and_eq_true, decide_eq_true_eq] at h
  simp only [Config.MAX_CODED] at h
  have hm : m.code.toNat < 4 := m.code.isLt
  have hb : m.code.toNat * 2 ^ 20 + y.length * 2 ^ 10 + nOut.toNat < 2 ^ 24 := by omega
  have hp : ∀ arg, payloadLength (command 0x32 arg) =
      (((command 0x32 arg).extractLsb' 10 10).toNat + 3) / 4 := by
    intro arg
    simp [payloadLength, opOf_command]
  rw [commandWord, hp, fieldIn_command _ hb, payloadWords, packBytes_length]
  omega

theorem llrMap (x : Word32) : Statement (.llrMap x) := by
  intro _
  simp [payloadLength, commandWord, payloadWords, opOf_command]

theorem vitDecode (nOut : BitVec 10) (l : List Byte) : Statement (.vitDecode nOut l) := by
  intro h
  simp only [Instr.wellFormed, vitCountsOk, Bool.and_eq_true, decide_eq_true_eq] at h
  simp only [Config.MAX_CODED] at h
  have hb : l.length * 2 ^ 10 + nOut.toNat < 2 ^ 24 := by omega
  have hp : ∀ arg, payloadLength (command 0x40 arg) = (((command 0x40 arg).extractLsb' 10 10).toNat + 3) / 4 := by
    intro arg
    simp [payloadLength, opOf_command]
  rw [commandWord, hp, fieldIn_command _ hb, payloadWords, packBytes_length]
  omega

theorem interleave (x : FrameOperand) : Statement (.interleave x) := by
  intro h
  cases x with
  | bits x =>
    have hx : x.length = 368 := by simpa [Instr.wellFormed, FrameOperand.length, Config.FRAME_LLRS] using h
    have hk : payloadLength (command 0x50 0) = 12 := by decide
    rw [commandWord, hk]
    simp [payloadWords, hx]
  | llrs x =>
    have hx : x.length = 368 := by simpa [Instr.wellFormed, FrameOperand.length, Config.FRAME_LLRS] using h
    have hk : payloadLength (command 0x50 1) = 92 := by decide
    rw [commandWord, hk]
    simp [payloadWords, hx]

theorem deinterleave (y : FrameOperand) : Statement (.deinterleave y) := by
  intro h
  cases y with
  | bits x =>
    have hx : x.length = 368 := by simpa [Instr.wellFormed, FrameOperand.length, Config.FRAME_LLRS] using h
    have hk : payloadLength (command 0x51 0) = 12 := by decide
    rw [commandWord, hk]
    simp [payloadWords, hx]
  | llrs x =>
    have hx : x.length = 368 := by simpa [Instr.wellFormed, FrameOperand.length, Config.FRAME_LLRS] using h
    have hk : payloadLength (command 0x51 1) = 92 := by decide
    rw [commandWord, hk]
    simp [payloadWords, hx]

theorem randomize (x : List Bool) : Statement (.randomize x) := by
  intro h
  have hx : x.length = 368 := by simpa [Instr.wellFormed, Config.FRAME_LLRS] using h
  simp [payloadLength, commandWord, payloadWords, opOf_command, hx]

theorem derandomize (l : List Byte) : Statement (.derandomize l) := by
  intro h
  have hx : l.length = 368 := by simpa [Instr.wellFormed, Config.FRAME_LLRS] using h
  simp [payloadLength, commandWord, payloadWords, opOf_command, hx]

theorem corSample (x : Word32) : Statement (.corSample x) := by
  intro _
  simp [payloadLength, commandWord, payloadWords, opOf_command]

theorem corCorrelate (w : SynSel) : Statement (.corCorrelate w) := by
  intro _
  simp [payloadLength, commandWord, payloadWords, opOf_command]

theorem syncTriggered (w : SynSel) : Statement (.syncTriggered w) := by
  intro _
  simp [payloadLength, commandWord, payloadWords, opOf_command]

theorem syncStep (w : SynSel) : Statement (.syncStep w) := by
  intro _
  simp [payloadLength, commandWord, payloadWords, opOf_command]

theorem syncUpdated (w : SynSel) : Statement (.syncUpdated w) := by
  intro _
  simp [payloadLength, commandWord, payloadWords, opOf_command]

theorem dcdSample (x : Word32) : Statement (.dcdSample x) := by
  intro _
  simp [payloadLength, commandWord, payloadWords, opOf_command]

theorem dcdUpdate : Statement .dcdUpdate := by
  intro _
  simp [payloadLength, commandWord, payloadWords, opOf_command]

theorem clkSample (x : Word32) : Statement (.clkSample x) := by
  intro _
  simp [payloadLength, commandWord, payloadWords, opOf_command]

theorem clkUpdate : Statement .clkUpdate := by
  intro _
  simp [payloadLength, commandWord, payloadWords, opOf_command]

theorem clkReset : Statement .clkReset := by
  intro _
  simp [payloadLength, commandWord, payloadWords, opOf_command]

theorem frmPush (a b : Byte) : Statement (.frmPush a b) := by
  intro _
  simp [payloadLength, commandWord, payloadWords, opOf_command]

theorem frmReset : Statement .frmReset := by
  intro _
  simp [payloadLength, commandWord, payloadWords, opOf_command]

theorem fdDecode (acc : Bool) (sync : SyncType) (f : List Byte) : Statement (.fdDecode acc sync f) := by
  intro h
  have hx : f.length = 368 := by simpa [Instr.wellFormed, Config.FRAME_LLRS] using h
  simp [payloadLength, commandWord, payloadWords, opOf_command, hx]

theorem fdReset : Statement .fdReset := by
  intro _
  simp [payloadLength, commandWord, payloadWords, opOf_command]

theorem demSample (acc : Bool) (x : Word32) : Statement (.demSample acc x) := by
  intro _
  simp [payloadLength, commandWord, payloadWords, opOf_command]

theorem encLsf (bytes : List Byte) : Statement (.encLsf bytes) := by
  intro h
  have hx : bytes.length = 30 := by simpa [Instr.wellFormed] using h
  simp [payloadLength, commandWord, payloadWords, opOf_command, hx]

theorem encLich (index : BitVec 3) (bytes : List Byte) : Statement (.encLich index bytes) := by
  intro h
  have hx : bytes.length = 5 := by simpa [Instr.wellFormed] using (Bool.and_eq_true_iff.1 h).2
  simp [payloadLength, commandWord, payloadWords, opOf_command, hx]

theorem encStream (bytes : List Byte) : Statement (.encStream bytes) := by
  intro h
  have hx : bytes.length = 30 := by simpa [Instr.wellFormed] using h
  simp [payloadLength, commandWord, payloadWords, opOf_command, hx]

theorem encPacket (bytes : List Byte) : Statement (.encPacket bytes) := by
  intro h
  have hx : bytes.length = 26 := by simpa [Instr.wellFormed] using h
  simp [payloadLength, commandWord, payloadWords, opOf_command, hx]

theorem encBert (bytes : List Byte) : Statement (.encBert bytes) := by
  intro h
  have hx : bytes.length = 25 := by simpa [Instr.wellFormed] using h
  simp [payloadLength, commandWord, payloadWords, opOf_command, hx]

end Sys2Proof.Laws.PayloadLength
end

