-- ==== Sys2Proof/Tests/Slice0.lean ====
section
/-! SUPPORT. The model's own tests.  Expected words and values are those of spec/95_test_vectors.md (named V-...) or are read
off the tables of spec/30_encoding.md; then, for every statement with hypotheses, a state and operands that meet them. -/

namespace Sys2Proof.Tests

open Sys2Proof Sys2Proof.Machine

set_option Elab.async false

/-! ## Ill-formed terms, one for each check -/

theorem wf_crcUpdaten (n : Nat) :
    (Instr.crcUpdaten (List.replicate n 0)).wellFormed = (decide (1 ≤ n) && decide (n ≤ 65535)) := by
  simp [Instr.wellFormed]

theorem test_wf_crcUpdaten_empty : (Instr.crcUpdaten []).wellFormed = false := by decide
theorem test_wf_crcUpdaten_long : (Instr.crcUpdaten (List.replicate 65536 0)).wellFormed = false :=
  (wf_crcUpdaten 65536).trans (by decide)
theorem test_wf_convEnc_long : (Instr.convEnc (List.replicate 241 true)).wellFormed = false := by decide +kernel
theorem test_wf_puncture_in : (Instr.puncture .p1 0 (List.replicate 489 true)).wellFormed = false := by decide +kernel
theorem test_wf_puncture_out : (Instr.puncture .p1 489 []).wellFormed = false := by decide
theorem test_wf_depuncture_in : (Instr.depuncture .p2 0 (List.replicate 489 0)).wellFormed = false := by decide +kernel
theorem test_wf_depuncture_out : (Instr.depuncture .p2 489 []).wellFormed = false := by decide
theorem test_wf_vitDecode_empty : (Instr.vitDecode 0 []).wellFormed = false := by decide
theorem test_wf_vitDecode_odd : (Instr.vitDecode 0 [1, 2, 3]).wellFormed = false := by decide
theorem test_wf_vitDecode_long : (Instr.vitDecode 0 (List.replicate 490 0)).wellFormed = false := by decide +kernel
theorem test_wf_vitDecode_out : (Instr.vitDecode 3 [1, 2, 3, 4]).wellFormed = false := by decide
theorem test_wf_interleave : (Instr.interleave (.bits (List.replicate 367 true))).wellFormed = false := by decide +kernel
theorem test_wf_deinterleave : (Instr.deinterleave (.llrs (List.replicate 369 0))).wellFormed = false := by decide +kernel
theorem test_wf_randomize : (Instr.randomize (List.replicate 367 true)).wellFormed = false := by decide +kernel
theorem test_wf_derandomize : (Instr.derandomize (List.replicate 369 0)).wellFormed = false := by decide +kernel
theorem test_wf_fdDecode : (Instr.fdDecode true .lsf (List.replicate 367 0)).wellFormed = false := by decide +kernel
theorem test_wf_encLsf : (Instr.encLsf (List.replicate 29 0)).wellFormed = false := by decide +kernel
theorem test_wf_encLich_index : (Instr.encLich 6 (List.replicate 5 0)).wellFormed = false := by decide +kernel
theorem test_wf_encLich_bytes : (Instr.encLich 0 (List.replicate 4 0)).wellFormed = false := by decide +kernel
theorem test_wf_encStream : (Instr.encStream (List.replicate 31 0)).wellFormed = false := by decide +kernel
theorem test_wf_encPacket : (Instr.encPacket (List.replicate 25 0)).wellFormed = false := by decide +kernel
theorem test_wf_encBert : (Instr.encBert (List.replicate 26 0)).wellFormed = false := by decide +kernel

/-! ## Decoding: a word for every constructor -/

theorem test_decode_nop : decode [0x00000000] = .instr .nop 1 := by decide
theorem test_decode_reset : decode [0x01000000] = .instr .reset 1 := by decide
theorem test_decode_status : decode [0x02000000] = .instr .status 1 := by decide
theorem test_decode_setCfg : decode [0x03000002] = .instr (.setCfg true false) 1 := by decide
theorem test_decode_crcReset : decode [0x10000000] = .instr .crcReset 1 := by decide
theorem test_decode_crcUpdate : decode [0x11000031] = .instr (.crcUpdate 0x31) 1 := by decide
theorem test_decode_crcUpdaten :
    decode [0x12000005, 0x31323334, 0x35FFFFFF] = .instr (.crcUpdaten [0x31, 0x32, 0x33, 0x34, 0x35]) 3 := by decide
theorem test_decode_crcFinal : decode [0x13000000] = .instr .crcFinal 1 := by decide
theorem test_decode_crcBytes : decode [0x14000000] = .instr .crcBytes 1 := by decide
theorem test_decode_golayEnc : decode [0x20000ABC] = .instr (.golayEnc 0xABC) 1 := by decide
theorem test_decode_golayDec : decode [0x21ABC23D] = .instr (.golayDec 0xABC23D) 1 := by decide
theorem test_decode_convEnc : decode [0x30000004, 0xB0000000] = .instr (.convEnc [true, false, true, true]) 2 := by decide
theorem test_decode_puncture :
    decode [0x31301402, 0xB7210000] = .instr (.puncture .p3 2 [true, false, true, true, false]) 2 := by decide
theorem test_decode_depuncture :
    decode [0x32101407, 0x01020304, 0x05000000] = .instr (.depuncture .p1 7 [1, 2, 3, 4, 5]) 3 := by decide
theorem test_decode_llrMap : decode [0x33000000, 0x40400000] = .instr (.llrMap 0x40400000) 2 := by decide
theorem test_decode_vitDecode :
    decode [0x40002801, 0x0707F907, 0xF90707F9, 0x07070000] =
      .instr (.vitDecode 1 [0x07, 0x07, 0xF9, 0x07, 0xF9, 0x07, 0x07, 0xF9, 0x07, 0x07]) 4 := by decide
theorem test_decode_interleave_bits :
    decode (0x50000000 :: List.replicate 12 0xFFFFFFFF) = .instr (.interleave (.bits (List.replicate 368 true))) 13 := by
  decide +kernel
theorem test_decode_interleave_llrs :
    decode (0x50000001 :: List.replicate 92 0x07070707) = .instr (.interleave (.llrs (List.replicate 368 7))) 93 := by
  decide +kernel
theorem test_decode_deinterleave :
    decode (0x51000001 :: List.replicate 92 0xF9F9F9F9) = .instr (.deinterleave (.llrs (List.replicate 368 0xF9))) 93 := by
  decide +kernel
theorem test_decode_randomize :
    decode (0x52000000 :: List.replicate 12 0x00000000) = .instr (.randomize (List.replicate 368 false)) 13 := by
  decide +kernel
theorem test_decode_derandomize :
    decode (0x53000000 :: List.replicate 92 0x07070707) = .instr (.derandomize (List.replicate 368 7)) 93 := by
  decide +kernel
theorem test_decode_corSample : decode [0x60000000, 0x40400000] = .instr (.corSample 0x40400000) 2 := by decide
theorem test_decode_corCorrelate : decode [0x61000001] = .instr (.corCorrelate .lsf) 1 := by decide
theorem test_decode_syncTriggered : decode [0x62000000] = .instr (.syncTriggered .preamble) 1 := by decide
theorem test_decode_syncStep : decode [0x63000002] = .instr (.syncStep .packet) 1 := by decide
theorem test_decode_syncUpdated : decode [0x64000001] = .instr (.syncUpdated .lsf) 1 := by decide
theorem test_decode_dcdSample : decode [0x68000000, 0x3F800000] = .instr (.dcdSample 0x3F800000) 2 := by decide
theorem test_decode_dcdUpdate : decode [0x69000000] = .instr .dcdUpdate 1 := by decide
theorem test_decode_clkSample : decode [0x70000000, 0xC0400000] = .instr (.clkSample 0xC0400000) 2 := by decide
theorem test_decode_clkUpdate : decode [0x71000000] = .instr .clkUpdate 1 := by decide
theorem test_decode_clkReset : decode [0x72000000] = .instr .clkReset 1 := by decide
theorem test_decode_frmPush : decode [0x800007F9] = .instr (.frmPush 0x07 0xF9) 1 := by decide
theorem test_decode_frmReset : decode [0x81000000] = .instr .frmReset 1 := by decide
theorem test_decode_fdDecode :
    decode (0x88000102 :: List.replicate 92 0xF9F9F9F9) = .instr (.fdDecode true .packet (List.replicate 368 0xF9)) 93 := by
  decide +kernel
theorem test_decode_fdReset : decode [0x89000000] = .instr .fdReset 1 := by decide
theorem test_decode_demSample : decode [0x90000100, 0x3F800000] = .instr (.demSample true 0x3F800000) 2 := by decide
theorem test_decode_encLsf :
    decode (0xA0000000 :: List.replicate 8 0x01010101) = .instr (.encLsf (List.replicate 30 1)) 9 := by decide +kernel
theorem test_decode_encLich :
    decode [0xA1000001, 0xFF00004B, 0x13000000] = .instr (.encLich 1 [0xFF, 0x00, 0x00, 0x4B, 0x13]) 3 := by decide
theorem test_decode_encStream :
    decode (0xA2000000 :: List.replicate 8 0x02020202) = .instr (.encStream (List.replicate 30 2)) 9 := by decide +kernel
theorem test_decode_encPacket :
    decode (0xA3000000 :: List.replicate 7 0x03030303) = .instr (.encPacket (List.replicate 26 3)) 8 := by decide +kernel
theorem test_decode_encBert :
    decode (0xA4000000 :: List.replicate 7 0x04040404) = .instr (.encBert (List.replicate 25 4)) 8 := by decide +kernel

theorem test_decode_illegalOp : decode [0x04000000] = .reject .illegalOp 0x04000000 := by decide
theorem test_decode_reservedBit : decode [0x20001000] = .reject .badArg 0x20001000 := by decide
theorem test_decode_selector3 : decode [0x61000003] = .reject .badArg 0x61000003 := by decide
theorem test_decode_mask0 : decode [0x31004010, 0xB7210000] = .reject .badArg 0x31004010 := by decide
theorem test_decode_incomplete : decode [0x40002801, 0x0707F907] = .incomplete := by decide

/-! ## One step -/

/-- The state after one step on the given words; the state itself when the step stops. -/
def afterStep (s : State) (ws : List Word32) : State :=
  match step { s with input := ws.map .word } with
  | .next t => t
  | _ => s

/-- The words one step appends. -/
def answer (s : State) (ws : List Word32) : List Word32 :=
  (afterStep s ws).rsp.drop s.rsp.length

/-- A correlator whose ring holds the eight symbols of `w`, each for ten samples, newest last. -/
def ringOf (w : SynSel) (sign : RealVal) (limit : RealVal) : Cor :=
  { buf := Vector.ofFn fun k : Fin 80 => sign * (((romSync w).getD (k.val / 10) 0 : Int) : RealVal)
    pos := 0, prevPos := 79, limit := limit, lpf := limit }

/-- A reset state with the ring of `ringOf`. -/
def heard (w : SynSel) (sign limit : RealVal) : State :=
  { State.reset with cor := ringOf w sign limit }

/-- The LSF of spec/95_test_vectors.md called LSF_S. -/
def lsfS : List Byte :=
  [0xFF, 0xFF, 0xFF, 0xFF, 0xFF, 0xFF, 0x00, 0x00, 0x4B, 0x13, 0xD1, 0x06, 0x00, 0x05] ++ List.replicate 14 0 ++ [0xA0, 0xF6]

theorem test_nop : answer State.reset [0x00000000] = [0x00000000] := by decide +kernel
theorem test_reset_restores_cfg :
    (afterStep { State.reset with cfg := { polarityNeg := true, diagEnable := true }, crc := 0 } [0x01000000]).cfg =
      { polarityNeg := false, diagEnable := false } := by decide +kernel
/-- The reset state read through STATUS (rules R55, R335). -/
theorem test_status_reset :
    answer State.reset [0x02000000] = [0x02000008, 0, 0, 0, 0, 0x000036E6, 0, 0x40000000, 0x3F800000] := by decide +kernel
theorem test_setCfg : (afterStep State.reset [0x03000001]).cfg = { polarityNeg := false, diagEnable := true } := by
  decide +kernel
/-- V-CRC-4. -/
theorem test_crcReset : (afterStep { State.reset with crc := 0 } [0x10000000]).crc = 0x36E6 := by decide +kernel
theorem test_crcUpdate : (afterStep State.reset [0x11000031]).crc = 0x2803 := by decide +kernel
theorem test_crcUpdaten_padding :
    (afterStep State.reset [0x12000009, 0x31323334, 0x35363738, 0x39FFFFFF]).crc = 0xD60A := by decide +kernel
theorem test_crcFinal : answer { State.reset with crc := 0xD60A } [0x13000000] = [0x13000001, 0x0000772B] := by
  decide +kernel
theorem test_crcBytes : answer { State.reset with crc := 0xD60A } [0x14000000] = [0x14000001, 0x772B0000] := by
  decide +kernel
/-- V-GOL-1 and V-GOL-2. -/
theorem test_golayEnc : answer State.reset [0x20000ABC] = [0x20000001, 0x00ABC23C] := by decide +kernel
theorem test_golayDec_three_errors : answer State.reset [0x21BBC33D] = [0x21000001, 0x00000ABC] := by decide +kernel
theorem test_golayDec_four_errors : answer State.reset [0x21ABC233] = [0x21100000] := by decide +kernel
/-- V-CNV-1. -/
theorem test_convEnc : answer State.reset [0x30000004, 0xB0000000] = [0x30000001, 0xD8F70000] := by decide +kernel
theorem test_convEnc_empty : answer State.reset [0x30000000] = [0x30000001, 0x00000000] := by decide +kernel
/-- V-PUN-2 and V-PUN-3. -/
theorem test_puncture_capacity :
    answer State.reset [0x3130400A, 0xB7210000] = [0x31000002, 0x0000000A, 0xB6400000] := by decide +kernel
theorem test_depuncture :
    answer State.reset [0x32301C08, 0x07F90707, 0xF9F90700] = [0x32000002, 0x07F90707, 0xF9F90700] := by decide +kernel
theorem test_depuncture_badOperand :
    answer State.reset [0x32300401, 0x80000000] = [0xFF820001, 0x32300401] := by decide +kernel
/-- V-LLR-1. -/
theorem test_llrMap : answer State.reset [0x33000000, 0xC0200000] = [0x33000001, 0x07040000] := by decide +kernel
theorem test_llrMap_nan : answer State.reset [0x33000000, 0x7FC00000] = [0xFF820001, 0x33000000] := by decide +kernel
/-- V-VIT-1 and V-VIT-2. -/
theorem test_vitDecode_soft :
    answer State.reset [0x40002801, 0x03FEF907, 0xF90707F9, 0x07070000] = [0x40000002, 0x00000002, 0x80000000] := by
  decide +kernel
theorem test_vitDecode_all_ones :
    answer State.reset [0x40002805, 0x07070707, 0x07070707, 0x07070000] = [0x40000002, 0x00000004, 0xE8000000] := by
  decide +kernel
/-- V-ILV-1. -/
theorem test_interleave :
    answer State.reset (0x50000000 :: 0xFF000000 :: List.replicate 11 0) =
      [0x5000000C, 0x80000000, 0x01000000, 0x00000020, 0, 0x00400000, 0x00000800, 0, 0x10000000, 0x00020000, 0x00000004, 0,
        0] := by decide +kernel
theorem test_deinterleave :
    answer State.reset
        [0x51000000, 0x80000000, 0x01000000, 0x00000020, 0, 0x00400000, 0x00000800, 0, 0x10000000, 0x00020000, 0x00000004, 0,
          0] =
      0x5100000C :: 0xFF000000 :: List.replicate 11 0 := by decide +kernel
/-- V-RND-1. -/
theorem test_randomize :
    answer State.reset (0x52000000 :: List.replicate 12 0) =
      [0x5200000C, 0xD6B5E230, 0x82FF8462, 0xBA4E9690, 0xD898DD5D, 0x0CC85243, 0x911DF86E, 0x682F35DA, 0x14EACD76,
        0x198DD580, 0xD1338713, 0x57182D29, 0x78C30000] := by decide +kernel
theorem test_derandomize :
    (answer State.reset (0x53000000 :: List.replicate 92 0x07070707)).take 5 =
      [0x5300005C, 0xF9F907F9, 0x07F9F907, 0xF907F9F9, 0x07F907F9] := by decide +kernel
/-- V-COR-1: the limit after the first sample, 257/128; V-COR-2 for the correlations. -/
theorem test_corSample : (afterStep State.reset [0x60000000, 0x40400000]).cor.limit = 257 / 128 := by decide +kernel
theorem test_corCorrelate : answer (heard .lsf 1 2) [0x61000002] = [0x61000001, 0x42100000] := by decide +kernel
theorem test_syncTriggered : answer (heard .lsf 1 2) [0x62000001] = [0x62000001, 0x42900000] := by decide +kernel
theorem test_syncTriggered_below : answer (heard .lsf 1 (5 / 2)) [0x62000001] = [0x62000001, 0x00000000] := by
  decide +kernel
/-- V-SYN-1: the peak 72 at phases 9, 0 and 1 is reported at the earliest index. -/
theorem test_syncStep_peak :
    (afterStep { State.reset with synLsf := { Syn.reset with triggered := true, samples := #v[72, 72, 255 / 4, 0, 0, 0, 0, 0, 0, 72] } }
      [0x63000001]).synLsf.timingIndex = 0 := by decide +kernel
theorem test_syncStep_opens : (afterStep (heard .lsf (-1) 2) [0x63000001]).synLsf.samples[9] = -72 := by decide +kernel
theorem test_syncUpdated :
    answer { State.reset with synLsf := { Syn.reset with updated := .minus } } [0x64000001] =
      [0x64000001, 0xFFFFFFFF] := by decide +kernel
/-- V-DCD-1 and V-DCD-3. -/
theorem test_dcdSample : (afterStep State.reset [0x68000000, 0x3F800000]).dcd.sdftOut.im = -1 / 2 := by decide +kernel
theorem test_dcdUpdate_holds_between_thresholds :
    answer { State.reset with dcd := { State.reset.dcd with level := 2, locked := true } } [0x69000000] =
      [0x69000001, 0x00000001] := by decide +kernel
/-- V-CLK-1. -/
theorem test_clkSample : (afterStep State.reset [0x70000000, 0x40400000]).clk.est[0] = 3 := by decide +kernel
theorem test_clkUpdate :
    answer { State.reset with clk := { Clk.reset with est := #v[3, 0, -7.5, -7.5, -7.5, -7.5, 7.5, 7.5, 7.5, 7.5] } }
      [0x71000000] = [0x71000002, 0x00000001, 0x3F800000] := by decide +kernel
theorem test_clkUpdate_clamps :
    answer { State.reset with clk := { Clk.reset with
        est := #v[0, 0, -6.75, -6.75, -6.75, -6.75, 6.75, 6.75, 6.75, 6.75], seeded := true, prevSampleIndex := 1
        sampleCount := 90 } } [0x71000000] = [0x71000002, 0x00000009, 0x3F7FDF3B] := by decide +kernel
theorem test_clkReset : (afterStep { State.reset with clk := { Clk.reset with idx := 4 } } [0x72000000]).clk = Clk.reset := by
  decide +kernel
/-- V-FRM-1. -/
theorem test_frmPush : (afterStep State.reset [0x800007F9]).frm.count = 2 := by decide +kernel
theorem test_frmPush_last :
    answer { State.reset with frm := { buf := Vector.replicate 368 7, count := 366 } } [0x800007F9] =
      0x8011005C :: List.replicate 91 0x07070707 ++ [0x070707F9] := by decide +kernel
theorem test_frmReset : (afterStep { State.reset with frm := { State.reset.frm with count := 100 } } [0x81000000]).frm.count = 0 := by
  decide +kernel
/-- V-FD-2 on the frame of V-ENC-3, the first fragment; V-FD-6: a mismatch fails with cost 0 and goes to LSF. -/
def streamFrame : List Word32 :=
  [0x09B8551D, 0xB1CEABD1, 0x4B2FE367, 0x0B5D93B0, 0x60331FBE, 0x4901A37D, 0xB19C0E88, 0x2E699E19, 0x36ABAB26, 0x97B753F5,
    0xC998BAAE, 0xE5520000]

/-- A frame of hard bits at full scale, as FD_FRAME sends it (rule R94). -/
def fullScale (ws : List Word32) : List Byte :=
  (readBits 368 ws).map fun b => if b then 0x07 else 0xF9

theorem test_fdDecode_lich :
    answer State.reset (0x88000101 :: packBytes (fullScale streamFrame)) =
      [0xF001000B, 0, 0xFFFFFFFF, 0xFF000000, 0, 0, 0, 0, 0, 0, 0xFFFFFFFF, 0xFF000000, 0x88020001, 0] := by decide +kernel
theorem test_fdDecode_mismatch :
    (afterStep { State.reset with fd := { State.reset.fd with state := .bert } } (0x88000101 :: List.replicate 92 0)).fd.state =
      .lsf := by decide +kernel
theorem test_fdReset :
    (afterStep { State.reset with fd := { State.reset.fd with state := .stream, lichMask := 9 } } [0x89000000]).fd.lichMask = 0 := by
  decide +kernel
/-- Rule R271 on the reset state, and rule R283: a strong LSF trigger at the chosen phase. -/
theorem test_demSample_reset : answer State.reset [0x90000100, 0x40400000] = [0x90000001, 0x00000000] := by decide +kernel
theorem test_demSample_finds_lsf :
    (afterStep { heard .lsf 1 2 with
      cor := { ringOf .lsf 1 2 with pos := 79, prevPos := 78 }
      dem := { State.reset.dem with state := .lsfSync, sampleIndex := 9 } } [0x90000100, 0xC0400000]).dem.state = .frame := by
  decide +kernel
/-- V-ENC-1, V-ENC-2; the first word of V-ENC-3, V-ENC-4, V-ENC-5. -/
theorem test_encLsf :
    answer State.reset [0xA0000000, 0xFFFFFFFF, 0xFFFF0000, 0x4B13D106, 0x00050000, 0, 0, 0, 0xA0F60000] =
      [0xA000000C, 0x173DAA91, 0x8AD7A56B, 0xFB2ECE90, 0xFAC0C575, 0x5E881C05, 0xD307E462, 0x6C3B3BD8, 0x04EA5AE2, 0x990BD082,
        0xF3348697, 0xF31C6CAC, 0x78A20000] := by decide +kernel
theorem test_encLich :
    answer State.reset [0xA1000001, 0xFF00004B, 0x13000000] = [0xA1000003, 0xFF097B00, 0x00004B18, 0xA0320E11] := by
  decide +kernel
theorem test_encStream :
    (encStream m17core
      (List.replicate 9 0xFF ++ [0xF0, 0x02, 0x92]) ([0x00, 0x00] ++ (List.range 16).map fun k => BitVec.ofNat 8 (16 + k))).take 32 =
      bitsOf 0x09B8551D#32 := by decide +kernel
theorem test_encPacket :
    (encPacket m17core (((List.range 25).map fun k => BitVec.ofNat 8 (k + 1)) ++ [0x94])).take 32 = bitsOf 0x93F3D04B#32 := by
  decide +kernel
theorem test_encBert :
    (encBert m17core ((List.range 25).map fun k => BitVec.ofNat 8 (73 * k + 5))).take 32 = bitsOf 0xBF2EC347#32 := by
  decide +kernel

/-! Faults, the halt and the hard reset (rules R321, R322, R328, R346). -/

theorem test_fault_record : answer State.reset [0x04000000] = [0xFF800001, 0x04000000] := by decide +kernel
theorem test_halted :
    step { State.reset with core := { faultCode := 0x81, faultCmd := 0 }, input := [.word 0] } = .fault .halted := rfl
theorem test_hardReset_discards :
    step { State.reset with crc := 0, input := [.word 0x90000000, .hardReset, .word 0] } =
      .next { State.reset with input := [.word 0] } := rfl

/-! ## Witnesses: a state and operands that meet the hypotheses of a statement, one for each of its clauses -/

/-- `s` with the words before it and, after them, further inputs. -/
def fed (s : State) (ws : List Word32) (more : List HostInput) : State :=
  { s with input := ws.map .word ++ more }

def isNext : Result → Bool
  | .next _ => true
  | _ => false

theorem next_of {r : Result} (h : isNext r = true) : ∃ t, r = .next t := by
  cases r <;> simp_all [isNext]

theorem all_replicate {n : Nat} {x : Byte} (h : inLlrRange x) : ∀ b ∈ List.replicate n x, inLlrRange b := by
  intro b hb
  rwa [List.eq_of_mem_replicate hb]

/-- A demodulator in `state`, `edit` giving the rest of its registers. -/
def demIn (state : DemodState) (edit : Dem → Dem) (s : State) : State :=
  { s with dem := edit { s.dem with state := state } }

/-- A state with carrier and latch untouched whose sync detector `w` closes a window on a peak of `v` at index 3. -/
def edgeOf (w : SynSel) (v : RealVal) : State :=
  State.reset.setSyn w { Syn.reset with triggered := true, samples := #v[0, 0, 0, v, 0, 0, 0, 0, 0, 0] }

theorem witness_decodeOfEncode :
    (Instr.vitDecode 244 (List.replicate 488 0x80)).wellFormed = true ∧
      (Instr.puncture .p1 488 (List.replicate 488 true)).wellFormed = true ∧
      (Instr.convEnc (List.replicate 240 true)).wellFormed = true ∧ (Instr.convEnc []).wellFormed = true ∧
      (Instr.encLich 5 (List.replicate 5 0xFF)).wellFormed = true ∧
      (Instr.crcUpdaten [0]).wellFormed = true := by decide +kernel
theorem witness_crcUpdaten_longest : (Instr.crcUpdaten (List.replicate 65535 0)).wellFormed = true :=
  (wf_crcUpdaten 65535).trans (by decide)
theorem witness_decodedInstruction : decode (0x21ABC23D :: [0]) = .instr (.golayDec 0xABC23D) 1 := by decide
theorem witness_commandWord_accept : ∃ build, decodeCommand 0x4007A0F4 = .accept 122 build := ⟨_, rfl⟩
theorem witness_commandWord_illegalOp : decodeCommand 0xFF000000 = .reject .illegalOp := rfl
theorem witness_commandWord_reservedBit : decodeCommand 0x00000001 = .reject .badArg := rfl
theorem witness_commandWord_field : decodeCommand 0xA1000006 = .reject .badArg := rfl
theorem witness_stepRunsDecoded :
    (fed State.reset [0x900001FF] []).faulted = false ∧
      decode (pendingWords (fed State.reset [0x33000000, 0x7F7FFFFF] [.hardReset]).input) =
        .instr (.llrMap 0x7F7FFFFF) 2 ∧
      (fed State.reset [0x33000000, 0x7F7FFFFF] [.hardReset]).faulted = false := by decide +kernel
theorem witness_rejected_illegalOp :
    State.reset.faulted = false ∧ decode (0xA5000000 :: pendingWords []) = .reject .illegalOp 0xA5000000 := by decide
theorem witness_rejected_badArg :
    State.reset.faulted = false ∧ decode (0x40002402 :: pendingWords [.word 0]) = .reject .badArg 0x40002402 := by decide
theorem witness_badOperand_llr :
    (Instr.frmPush 7 8).wellFormed = true ∧ (∃ b ∈ llrOperand (.frmPush 7 8), ¬ inLlrRange b) ∧
      (∃ b ∈ llrOperand (.frmPush 0xF8 0xF9), ¬ inLlrRange b) ∧
      (∃ b ∈ llrOperand (.fdDecode true .bert (List.replicate 367 7 ++ [0x80])), ¬ inLlrRange b) ∧
      (Instr.fdDecode true .bert (List.replicate 367 7 ++ [0x80])).wellFormed = true := by decide +kernel
theorem witness_badOperand_sample :
    (Instr.demSample true 0x7F800000).wellFormed = true ∧ (∃ x ∈ sampleOperand (.demSample true 0x7F800000), notFinite x) ∧
      (∃ x ∈ sampleOperand (.clkSample 0xFFC00001), notFinite x) ∧ (Instr.clkSample 0xFFC00001).wellFormed = true :=
  ⟨by decide, ⟨0x7F800000, rfl, by decide⟩, ⟨0xFFC00001, rfl, by decide⟩, by decide⟩
theorem witness_legal_llr :
    (Instr.frmPush 7 0xF9).wellFormed = true ∧ (∀ b ∈ llrOperand (.frmPush 7 0xF9), inLlrRange b) ∧
      (∀ x ∈ sampleOperand (.frmPush 7 0xF9), ¬ notFinite x) :=
  ⟨by decide, by decide, by intro x h; cases h⟩
theorem witness_legal_sample :
    (Instr.corSample 0x7F7FFFFF).wellFormed = true ∧ (∀ b ∈ llrOperand (.corSample 0x7F7FFFFF), inLlrRange b) ∧
      (∀ x ∈ sampleOperand (.corSample 0x7F7FFFFF), ¬ notFinite x) :=
  ⟨by decide, by decide, by intro x h; cases h; decide⟩
theorem witness_legal_reset :
    Instr.reset.wellFormed = true ∧ (∀ b ∈ llrOperand .reset, inLlrRange b) ∧ (∀ x ∈ sampleOperand .reset, ¬ notFinite x) :=
  ⟨by decide, by decide, by intro x h; cases h⟩
/-- A halted core, with words queued and with a hard reset behind them. -/
theorem witness_halted_waits :
    ({ fed State.reset [0] [] with core := { faultCode := 0x82, faultCmd := 0 } }).faulted = true ∧
      afterHardReset (fed State.reset [0] []).input = none := by decide
theorem witness_halted_reset :
    ({ fed State.reset [0] [.hardReset, .word 5] with core := { faultCode := 0x80, faultCmd := 0 } }).faulted = true ∧
      afterHardReset (fed State.reset [0] [.hardReset, .word 5]).input = some [.word 5] := by decide
theorem witness_hardReset_idle :
    State.reset.faulted = false ∧
      (fed State.reset [] [.hardReset]).input = ([] : List Word32).map HostInput.word ++ .hardReset :: [] ∧
      decode [] = .incomplete := by decide
theorem witness_hardReset_inside :
    State.reset.faulted = false ∧
      (fed State.reset [0x12000005, 0x01020304] [.hardReset]).input =
        ([0x12000005, 0x01020304] : List Word32).map HostInput.word ++ .hardReset :: [] ∧
      decode [0x12000005, 0x01020304] = .incomplete := by decide
/-- DEM_SAMPLE at the diagnostics cadence emits one event; the hard reset comes before (`k` = 0) or after (`k` = 1) it. -/
def diagDue : State :=
  demIn .unlocked (fun d => { d with diagCount := 959 }) { State.reset with cfg := { polarityNeg := false, diagEnable := true } }
def interrupted (k : Nat) : State :=
  { diagDue with input := .hardResetDuring k :: ((encode (.demSample true 0)).map HostInput.word ++ []) }
theorem witness_hardReset_during :
    (interrupted 0).faulted = false ∧ (interrupted 1).faulted = false ∧ (Instr.demSample true 0).wellFormed = true ∧
      ∃ u, exec (.demSample true 0) { interrupted 1 with input := [], cmdIndex := 2 } = .next u :=
  ⟨rfl, rfl, rfl, next_of (by decide +kernel)⟩
theorem witness_hardReset_during_event :
    (afterStep diagDue [0x90000100, 0]).rsp =
      ([⟨0xF1, 0, [0, 0, 0, 0, 0x3F800000, 0]⟩] : List Record).flatMap Record.words ++ (⟨0x90, 0, [0]⟩ : Record).words := by
  decide +kernel
/-- CRC_FINAL on a stream that holds one whole record. -/
def oneRecord : State :=
  { fed State.reset [0x13000000] [] with rsp := [0x10000000] }
theorem witness_wholeRecords : wholeRecords oneRecord.rsp = true ∧ ∃ t, step oneRecord = .next t := ⟨by decide, _, rfl⟩
/-- An invariant state other than reset: a locked carrier, an open detector window, a half-filled frame. -/
def busy : State :=
  demIn .frame (fun d => { d with dcd := true, costCount := 75, missingSyncCount := 191, pollCount := 959 })
    { heard .lsf 1 2 with
      frm := { buf := Vector.replicate 368 7, count := 366 }
      synLsf := { Syn.reset with triggered := true, samples := #v[72, 0, 0, 0, 0, 0, 0, 0, 0, 0] }
      input := [.word 0x90000100, .word 0x40400000] }
theorem witness_invariant : busy.Inv ∧ ∃ t, step busy = .next t :=
  ⟨⟨by decide, by decide, by decide +kernel, by decide +kernel, by intro w; cases w <;> decide +kernel, by decide +kernel,
    by decide +kernel, by decide +kernel, by decide +kernel, by decide, by decide +kernel⟩,
    next_of (by decide +kernel)⟩
theorem witness_safeOperation :
    operationSharesNothing (.golayEnc 0xABC) = true ∧
      ∃ t, exec (.golayEnc 0xABC) busy = .next t := ⟨rfl, _, rfl⟩
theorem witness_crcUpdaten :
    1 ≤ ([0x31] : List Byte).length ∧ ([0x31] : List Byte).length ≤ 65535 ∧
      (List.replicate 65535 (0 : Byte)).length ≤ 65535 := ⟨by decide, by decide, List.length_replicate.le⟩
theorem witness_crcUpdaten_split :
    1 ≤ ([0x31] : List Byte).length ∧ 1 ≤ (List.replicate 65534 (0 : Byte)).length ∧
      ([0x31] : List Byte).length + (List.replicate 65534 (0 : Byte)).length ≤ 65535 := by
  rw [List.length_replicate]; decide
theorem witness_crcAffine : ([1, 2] : List Byte).length = ([0xFF, 0] : List Byte).length := rfl
theorem witness_golay_pattern : popcount (0x700000 : BitVec 23) ≤ 3 := by decide
theorem witness_golay_two : golayLut (golaySyndrome ((0xABC23F : BitVec 24).extractLsb' 1 23)) = some 1 := by decide +kernel
theorem witness_golay_three :
    ∃ e, golayLut (golaySyndrome ((0xABC233 : BitVec 24).extractLsb' 1 23)) = some e ∧ popcount e = 3 := by
  refine ⟨(golayLut (golaySyndrome ((0xABC233 : BitVec 24).extractLsb' 1 23))).getD 0, ?_⟩
  decide +kernel
theorem witness_golay_weights :
    popcount (0xC00001 : BitVec 24) ≤ 3 ∧ popcount (0xC00003 : BitVec 24) = 4 := by decide
theorem witness_convEnc : (List.replicate 240 true).length ≤ 240 ∧ ([] : List Bool).length ≤ 240 := by decide +kernel
theorem witness_convOutputs :
    0 < ([] : List Bool).length + 4 ∧ 3 < ([] : List Bool).length + 4 ∧ 243 < (List.replicate 240 true).length + 4 ∧
      ([true, false] : List Bool).length = ([false, false] : List Bool).length := by decide +kernel
theorem witness_puncture :
    (List.replicate 488 true).length ≤ 488 ∧ (488 : BitVec 10).toNat ≤ 488 ∧ (0 : BitVec 10).toNat ≤ 488 := by
  decide +kernel
theorem witness_depuncture :
    (List.replicate 488 (0xF9 : Byte)).length ≤ 488 ∧ (488 : BitVec 10).toNat ≤ 488 ∧
      ∀ b ∈ List.replicate 488 (0xF9 : Byte), inLlrRange b := ⟨List.length_replicate.le, by decide, all_replicate (by decide)⟩
theorem witness_sample : realOfF32 0xC0200000 = some (-5 / 2) ∧ realOfF32 0x80000000 = some 0 := by decide +kernel
/-- The largest subnormal, the smallest normal and the largest finite word (rule R62). -/
theorem witness_sample_value :
    ¬ notFinite 0x807FFFFF ∧ realOfF32 0x807FFFFF = some (-(2 ^ 23 - 1) / 2 ^ 149) ∧
      ¬ notFinite 0x00800000 ∧ realOfF32 0x00800000 = some (1 / 2 ^ 126) ∧
      ¬ notFinite 0x7F7FFFFF ∧ realOfF32 0x7F7FFFFF = some ((2 ^ 24 - 1) * 2 ^ 104) := by decide +kernel
theorem witness_depunctureInverts :
    ((List.range 3).filter fun i => ([true, false] : List Bool).getD (i % 2) false).length ≤ 2 := by decide
/-- Rules R141 and R142 by hand: a short capacity, an exhausted input, and input left over. -/
theorem test_puncture_elements :
    puncture [true, false, false, true, true] [true, false] 2 = [true, false] ∧
      depuncture [3, -2] [true, false] 6 = [3, 0, -2, 0, 0, 0] ∧ depuncture [3, -2, 5] [true, false] 3 = [3, 0, -2] := by decide
theorem witness_vitDecode :
    2 ≤ (List.replicate 488 (0xF9 : Byte)).length ∧ (List.replicate 488 (0xF9 : Byte)).length % 2 = 0 ∧
      (List.replicate 488 (0xF9 : Byte)).length ≤ 488 ∧
      2 * (244 : BitVec 10).toNat ≤ (List.replicate 488 (0xF9 : Byte)).length ∧
      ∀ b ∈ List.replicate 488 (0xF9 : Byte), inLlrRange b :=
  ⟨by rw [List.length_replicate]; decide, by rw [List.length_replicate], List.length_replicate.le,
    by rw [List.length_replicate]; decide, all_replicate (by decide)⟩
theorem witness_viterbiPath :
    LlrList [7, -7] ∧ ([7, -7] : List Llr).length = 2 * 1 ∧ LlrList (List.replicate 488 (0 : Llr)) ∧
      (List.replicate 488 (0 : Llr)).length = 2 * 244 := by decide +kernel
/-- One bit encodes to 11 10 11 01 11 and more; the first pair is received with a sign error and an erasure. -/
theorem witness_viterbiErrors :
    let c := convEncode [true]
    let l : List Llr := [-7, 0] ++ (c.drop 2).map soft
    [true].length ≤ 240 ∧ l.length = c.length ∧ (∀ p ∈ c.zip l, p.2 = soft p.1 ∨ p.2 = 0 ∨ p.2 = -soft p.1) ∧
      ((c.zip l).filter fun p => p.2 = -soft p.1).length ≤ 1 := by decide
theorem witness_frameOperand :
    (List.replicate 368 true).length = 368 ∧ (List.replicate 368 (7 : Byte)).length = 368 ∧
      ∀ b ∈ List.replicate 368 (7 : Byte), inLlrRange b := ⟨List.length_replicate, List.length_replicate, all_replicate (by decide)⟩
theorem witness_corSamples : (List.replicate 80 (1 : RealVal)).length = 80 := rfl
theorem witness_triggered_above :
    let s := heard .lsf 1 2
    s.cor.limit * m17core.mag1 .lsf < correlate m17core s.cor .lsf ∧
      ¬ ∃ m ∈ m17core.mag2 .preamble, correlate m17core s.cor .lsf < s.cor.limit * m := by
  refine ⟨by decide +kernel, ?_⟩
  rintro ⟨m, h, -⟩
  cases h
theorem witness_triggered_below :
    let s := heard .packet (-1) 2
    ∃ m ∈ m17core.mag2 .packet, correlate m17core s.cor .packet < s.cor.limit * m := ⟨-31, rfl, by decide +kernel⟩
theorem witness_triggered_not : synTriggered m17core (heard .lsf 1 (9 / 4)).cor .lsf = 0 := by decide +kernel
theorem witness_synStep :
    synTriggered m17core (heard .lsf 1 2).cor .lsf ≠ 0 ∧
      (synTriggered m17core (edgeOf .packet 1).cor .packet = 0 ∧ ((edgeOf .packet 1).syn .packet).triggered = true) ∧
      (synTriggered m17core State.reset.cor .packet = 0 ∧ (State.reset.syn .packet).triggered = false) := by decide +kernel
/-- The smoothed level at and beyond both thresholds. -/
theorem witness_dcdUpdate :
    let at_ := fun (level accIn : RealVal) => dcdLevel { State.reset.dcd with level := level, accIn := accIn, accOut := 1 }
    4 < at_ 5 1 ∧ at_ 5 0 = 4 ∧ 1 < at_ 1 2 ∧ at_ 1 1 = 1 := by decide +kernel
theorem witness_clkUpdate_edge :
    let est : Vector RealVal 10 := #v[-1, 2, 0, -3, 0, 0, 1, -1, 0, 0]
    est[3] < 0 ∧ (0 : RealVal) < est[1] ∧ ∀ j : Fin 10, j < 3 → est[j] < 0 → ∀ i : Fin 10, i < j → ¬ 0 < est[i] := by
  decide +kernel
theorem witness_clkUpdate_none :
    let est : Vector RealVal 10 := #v[-1, -2, 0, 3, 0, 0, 1, 1, 0, 0]
    ∀ i j : Fin 10, i < j → 0 < est[i] → ¬ est[j] < 0 := by decide +kernel
theorem witness_clkUpdate_seeded :
    State.reset.clk.seeded = false ∧ ({ Clk.reset with seeded := true }).seeded = true ∧
      ({ Clk.reset with seeded := true }).sampleCount = 0 ∧
      0 < ({ Clk.reset with seeded := true, sampleCount := 1 }).sampleCount := by decide
theorem witness_nearestBinary32 : |(1 / 3 : RealVal)| < 2 ^ 128 - 2 ^ 103 := by decide +kernel
theorem witness_frmPush :
    inLlrRange 7 ∧ inLlrRange 0xF9 ∧ State.reset.frm.count + 1 < 368 ∧
      ({ State.reset.frm with count := 366 }).count + 1 < 368 ∧ ({ State.reset.frm with count := 364 }).count + 2 ≠ 368 := by
  decide
theorem witness_frmPush_all :
    (List.replicate 184 ((7, 0xF9) : Byte × Byte)).length = 184 ∧
      (∀ p ∈ List.replicate 184 ((7, 0xF9) : Byte × Byte), inLlrRange p.1 ∧ inLlrRange p.2) ∧ State.reset.frm.count = 0 :=
  ⟨List.length_replicate, fun p h => by rw [List.eq_of_mem_replicate h]; decide, rfl⟩
theorem witness_lichFragment :
    ([0xFF, 0, 0, 0, 0x4B] : List Byte).length = 5 ∧ (List.replicate 18 (0 : Byte)).length = 18 ∧ (5 : BitVec 3).toNat ≤ 5 ∧
      State.reset.fd.state = .lsf ∧ ({ State.reset.fd with state := .stream }).state = .stream := by decide

/-- The result of a LICH call on `bits` at full scale, de-interleaved and de-randomized, with `mask` and `lsf` collected. -/
def lichResult (bits : List Bool) (mask : BitVec 6) (lsf : List Byte) : FdResult × BitVec 6 :=
  let o := fdLich (bits.map soft) { State.reset.fd with lichMask := mask, lsf := lsfOfList lsf } State.reset.vit
  (o.result, o.fd.lichMask)

/-- The five LICH rows of rule R259: four errors in a codeword, number 6, a first fragment, and the last fragment of LSF_S
onto the others and onto wrong ones. -/
theorem witness_lich_rows :
    lichResult (bitsOf 0xABC233#24 ++ List.replicate 72 false) 9 [] = (.fail, 9) ∧
      lichResult (encLich [1, 2, 3, 4, 5] 6) 9 [] = (.fail, 9) ∧
      lichResult (encLich [1, 2, 3, 4, 5] 5) 0x1E [] = (.incomplete, 0x3E) ∧
      lichResult (encLich (lsfS.drop 25) 5) 0x1F (lsfS.take 25) = (.ok, 0) ∧
      lichResult (encLich (lsfS.drop 25) 5) 0x1F (1 :: lsfS.take 24) = (.fail, 0x3F) := by decide +kernel
/-- LSF_S, whose checksum is right, and the same with its last byte changed. -/
theorem witness_lsfFrame :
    lsfS.length = 30 ∧ crc16 lsfS = 0 ∧ (lsfS.take 29 ++ [0xF7]).length = 30 ∧ crc16 (lsfS.take 29 ++ [0xF7]) ≠ 0 := by
  decide +kernel
theorem witness_packetFrame :
    (List.replicate 25 (1 : Byte) ++ [0x83]).length = 26 ∧ (List.replicate 25 (0xFF : Byte)).length = 25 ∧
      (({ State.reset.fd with state := .fullPacket }).state, FrameType.fullPacket) ∈
        [(FdState.basicPacket, FrameType.basicPacket), (.fullPacket, .fullPacket)] := by decide

/-! The demodulator: the state before and after one DEM_SAMPLE of 0, for every row of the table of rule R298 and both sides of
its counts. -/

def moves (s : State) : DemodState × DemodState :=
  (s.dem.state, (afterStep s [0x90000100, 0x00000000]).dem.state)

theorem witness_demSample_answers : ∃ t, exec (.demSample true 0) busy = .next t := next_of (by decide +kernel)

/-- Clock housekeeping with an update pending: the clock chooses bin 4; the sampling phase before and after. -/
def housekept (reset : Bool) (syncIndex current : Fin 10) : Fin 10 × Bool × Bool :=
  let t := clockHousekeeping { State.reset with
    clk := { Clk.reset with est := #v[0, 0, 0, 0, 1, -1, 0, 0, 0, 0] }
    dem := { State.reset.dem with
      needClockReset := reset, needClockUpdate := true, syncSampleIndex := syncIndex, sampleIndex := current } }
  (t.dem.sampleIndex, t.dem.needClockReset, t.dem.needClockUpdate)

/-- A reset goes first; then the clock's choice, the sync word's index round the period, or neither, is near. -/
theorem witness_housekeeping :
    housekept true 0 5 = (5, false, true) ∧ housekept false 9 5 = (4, false, false) ∧
      housekept false 9 0 = (9, false, false) ∧ housekept false 9 7 = (7, false, false) := by decide +kernel
theorem witness_housekeeping_none :
    State.reset.dem.needClockReset = false ∧ State.reset.dem.needClockUpdate = false := by decide
theorem witness_unlocked_preamble : moves (demIn .unlocked id (edgeOf .preamble 60)) = (.unlocked, .lsfSync) := by
  decide +kernel
theorem witness_unlocked_preamble_last :
    moves (demIn .unlocked (fun d => { d with missingSyncCount := 1919 }) (edgeOf .preamble 60)) = (.unlocked, .lsfSync) := by
  decide +kernel
theorem witness_unlocked_preamble_none : moves State.reset = (.unlocked, .unlocked) := by decide +kernel
theorem witness_unlocked_fallback_lsf :
    moves (demIn .unlocked (fun d => { d with missingSyncCount := 1920 }) (edgeOf .lsf (-72))) = (.unlocked, .lsfSync) := by
  decide +kernel
theorem witness_unlocked_fallback_bert :
    moves (demIn .unlocked (fun d => { d with missingSyncCount := 1920 }) (edgeOf .packet (-72))) = (.unlocked, .frame) := by
  decide +kernel
theorem witness_unlocked_fallback_packet :
    moves (demIn .unlocked (fun d => { d with missingSyncCount := 1920 }) (edgeOf .packet 72)) = (.unlocked, .lsfSync) := by
  decide +kernel
theorem witness_unlocked_fallback_none :
    moves (demIn .unlocked (fun d => { d with missingSyncCount := 1920 }) State.reset) = (.unlocked, .unlocked) := by
  decide +kernel

/-- LSF_SYNC at the chosen phase with the ring of `ringOf`: what the handler alone does. -/
def lsfSyncOn (cor : Cor) (missing : Nat) : State :=
  demHandler m17core 0 true
    (demIn .lsfSync (fun d => { d with sampleIndex := 9, missingSyncCount := missing }) { State.reset with cor := cor })

theorem witness_lsfSync_preamble : (lsfSyncOn (ringOf .preamble 1 2) 191).dem.state = .lsfSync := by decide +kernel
theorem witness_lsfSync_lsf : (lsfSyncOn (ringOf .lsf 1 2) 0).dem.syncWordType = .lsf := by decide +kernel
theorem witness_lsfSync_stream : (lsfSyncOn (ringOf .lsf (-1) 2) 0).dem.syncWordType = .stream := by decide +kernel
theorem witness_lsfSync_packet : (lsfSyncOn (ringOf .packet 1 2) 0).dem.syncWordType = .packet := by decide +kernel
theorem witness_lsfSync_bert : (lsfSyncOn (ringOf .packet (-1) 2) 0).dem.syncWordType = .bert := by decide +kernel
theorem witness_lsfSync_miss : (lsfSyncOn (ringOf .lsf 0 2) 190).dem.missingSyncCount = 191 := by decide +kernel
theorem witness_lsfSync_gives_up : (lsfSyncOn (ringOf .lsf 0 2) 191).dem.state = .unlocked := by decide +kernel
theorem witness_lsfSync_moves :
    moves (demIn .lsfSync (fun d => { d with missingSyncCount := 191 }) State.reset) = (.lsfSync, .unlocked) ∧
      moves (demIn .lsfSync (fun d => { d with sampleIndex := 9 })
        { State.reset with cor := { ringOf .lsf 1 (3 / 2) with pos := 79, prevPos := 78 } }) = (.lsfSync, .frame) := by
  decide +kernel
theorem witness_lsfSync_other_phase :
    corIndex State.reset.cor ≠ (demIn .lsfSync (fun d => { d with sampleIndex := 4 }) State.reset).dem.sampleIndex := by decide

/-- A re-sync state after `n` samples and `m` misses. -/
def resyncAt (state : DemodState) (n m : Nat) (s : State) : State :=
  demIn state (fun d => { d with syncCount := n, missingSyncCount := m }) s

theorem witness_resync_edge_late :
    moves (resyncAt .streamSync 70 7 (edgeOf .lsf (-72))) = (.streamSync, .frame) ∧
      moves (resyncAt .packetSync 70 7 (edgeOf .packet 72)) = (.packetSync, .frame) ∧
      moves (resyncAt .bertSync 70 7 (edgeOf .packet (-72))) = (.bertSync, .frame) := by decide +kernel
theorem witness_resync_edge_early :
    moves (resyncAt .streamSync 69 7 (edgeOf .lsf (-72))) = (.streamSync, .streamSync) := by decide +kernel
theorem witness_resync_waits : moves (resyncAt .packetSync 86 7 State.reset) = (.packetSync, .packetSync) := by
  decide +kernel
theorem witness_resync_coasts : moves (resyncAt .bertSync 87 6 State.reset) = (.bertSync, .frame) := by decide +kernel
theorem witness_resync_gives_up :
    moves (resyncAt .streamSync 87 7 State.reset) = (.streamSync, .lsfSync) ∧
      moves (resyncAt .packetSync 87 7 State.reset) = (.packetSync, .unlocked) ∧
      moves (resyncAt .bertSync 87 7 State.reset) = (.bertSync, .unlocked) := by decide +kernel

/-- FRAME one push before a whole frame of `f`, with sync type, decoder state and strike count. -/
def lastPush (f : Nat → Llr) (sync : SyncType) (fd : FdState) (strikes : Nat) : State :=
  demIn .frame (fun d => { d with syncWordType := sync, costCount := strikes })
    { State.reset with
      frm := { buf := Vector.ofFn fun k : Fin 368 => f k.val, count := 366 }
      fd := { State.reset.fd with state := fd } }

/-- A symbol at another phase, the first and the last but one of a frame, and the one that completes it. -/
theorem witness_frame_symbol :
    corIndex State.reset.cor ≠ (demIn .frame (fun d => { d with sampleIndex := 9 }) State.reset).dem.sampleIndex ∧
      corIndex State.reset.cor = (lastPush (fun _ => 7) .stream .stream 0).dem.sampleIndex ∧
      State.reset.frm.count < 366 ∧ ({ State.reset.frm with count := 364 }).count < 366 ∧
      (lastPush (fun _ => 7) .stream .stream 0).frm.count = 366 := by decide +kernel
theorem witness_frame_stops :
    corIndex (corSample m17core 0 State.reset.cor) = (lastPush (fun _ => 7) .stream .basicPacket 75).dem.sampleIndex ∧
      (lastPush (fun _ => 7) .stream .basicPacket 75).frm.count = 366 := by decide +kernel
theorem witness_frame_streamSync :
    moves (lastPush (fun _ => 7) .stream .basicPacket 75) = (.frame, .streamSync) := by decide +kernel
/-- A stream frame of erasures but for the two coded bits that make the first payload bit a 1, the end mark (rule R252). -/
theorem witness_frame_eos :
    moves (lastPush (fun k => if k = 272 ∨ k = 41 then -7 else 0) .stream .stream 0) = (.frame, .lsfSync) := by decide +kernel
theorem witness_frame_bertSync : moves (lastPush (fun _ => 0) .bert .lsf 0) = (.frame, .bertSync) := by decide +kernel
theorem witness_frame_packetSync : moves (lastPush (fun _ => 0) .packet .fullPacket 75) = (.frame, .packetSync) := by
  decide +kernel
/-- A frame of the weakest LLRs costs 242: three strikes.  The dwell counter is cleared (rule R28). -/
theorem witness_frame_strikes_out :
    let s := demIn .frame (fun d => { d with syncCount := 82 }) (lastPush (fun _ => 1) .stream .stream 73)
    let t := afterStep s [0x90000100, 0x00000000]
    (s.dem.state, t.dem.state, t.dem.syncCount) = (.frame, .unlocked, 0) := by decide +kernel

/-- A carrier poll due with the given decision and level; the counter one sample earlier; and the diagnostics cadence. -/
def pollDue (dcd : Bool) (level : RealVal) (poll diag : Nat) : State :=
  demIn .lsfSync (fun d => { d with dcd := dcd, pollCount := poll, diagCount := diag })
    { State.reset with
      cfg := { polarityNeg := false, diagEnable := true }, dcd := { State.reset.dcd with level := level, locked := dcd } }

def pollDone (s : State) : DemodState × Bool × Nat :=
  let t := diagTick m17core (dcdPoll m17core s)
  (t.dem.state, t.dem.dcd, t.rsp.length)

theorem witness_poll :
    pollDone (pollDue false 8 959 959) = (.lsfSync, true, 14) ∧ pollDone (pollDue true 0 959 958) = (.unlocked, false, 7) ∧
      pollDone (pollDue true 8 959 958) = (.lsfSync, true, 0) ∧ pollDone (pollDue false 0 959 959) = (.lsfSync, false, 7) ∧
      pollDone (pollDue false 8 958 0) = (.lsfSync, false, 0) := by decide +kernel

/-- Rule R88: carrier on (bit 0), LSF_SYNC (6:4), tag BERT (9:8), sampling index 9 (15:12), sync index 3 (19:16); the clock 1
and the cost 7 behind three zero estimates. -/
theorem test_diag_event :
    let s := pollDue false 8 959 0
    (dcdPoll m17core { s with
      dem := { s.dem with syncWordType := .bert, sampleIndex := 9, syncSampleIndex := 3, viterbiCost := 7 } }).rsp =
      [0xF1000006, 0x00039311, 0, 0, 0, 0x3F800000, 7] := by decide +kernel

theorem witness_carrier_loss :
    moves (demIn .frame (fun d => { d with dcd := true, pollCount := 959 })
      { State.reset with dcd := { State.reset.dcd with locked := true } }) = (.frame, .unlocked) := by decide +kernel

theorem witness_encode :
    lsfS.length = 30 ∧ (List.replicate 5 (0 : Byte)).length = 5 ∧ (5 : BitVec 3).toNat ≤ 5 ∧
      (List.replicate 26 (0 : Byte)).length = 26 ∧ (List.replicate 25 (0 : Byte)).length = 25 := by decide

end Sys2Proof.Tests
end

