-- ==== Sys2Proof/Proofs/ResetState.lean ====
section
/-! SUPPORT. What each unit of `State.reset` holds (spec/10_state.md rule R55), and the statement that collects it.  The
registers rule R55 leaves unspecified (log entry 2) have no lemma here. -/

namespace Sys2Proof.Machine

open Sys2Proof

/-! ### The units whose reset value has a name of its own -/

@[simp] theorem Syn.reset_samples : Syn.reset.samples = Vector.replicate 10 0 := rfl
@[simp] theorem Syn.reset_triggered : Syn.reset.triggered = false := rfl
@[simp] theorem Syn.reset_timingIndex : Syn.reset.timingIndex = 0 := rfl
@[simp] theorem Syn.reset_updated : Syn.reset.updated = .zero := rfl

@[simp] theorem Sdft.reset_re (n : Nat) : (Sdft.reset n).re = 0 := rfl
@[simp] theorem Sdft.reset_im (n : Nat) : (Sdft.reset n).im = 0 := rfl
@[simp] theorem Sdft.reset_delay (n : Nat) : (Sdft.reset n).delay = List.replicate n 0 := rfl
@[simp] theorem Sdft.reset_j (n : Nat) : (Sdft.reset n).j = 0 := rfl

@[simp] theorem Clk.reset_est : Clk.reset.est = Vector.replicate 10 0 := rfl
@[simp] theorem Clk.reset_idx : Clk.reset.idx = 0 := rfl
@[simp] theorem Clk.reset_prevSample : Clk.reset.prevSample = 0 := rfl
@[simp] theorem Clk.reset_sampleIndex : Clk.reset.sampleIndex = 0 := rfl
@[simp] theorem Clk.reset_prevSampleIndex : Clk.reset.prevSampleIndex = 0 := rfl
@[simp] theorem Clk.reset_seeded : Clk.reset.seeded = false := rfl
@[simp] theorem Clk.reset_offsetTotal : Clk.reset.offsetTotal = 0 := rfl
@[simp] theorem Clk.reset_sampleCount : Clk.reset.sampleCount = 0 := rfl
@[simp] theorem Clk.reset_clock : Clk.reset.clock = 1 := rfl

/-! ### The units of the reset state, in the order of rule R55 -/

@[simp] theorem State.reset_core : State.reset.core = { faultCode := 0, faultCmd := 0 } := rfl
@[simp] theorem State.reset_cfg : State.reset.cfg = { polarityNeg := false, diagEnable := false } := rfl
@[simp] theorem State.reset_crc : State.reset.crc = 0x36E6 := rfl
@[simp] theorem State.reset_cnvMem : State.reset.cnvMem = 0 := rfl

@[simp] theorem State.reset_cor :
    State.reset.cor =
      { buf := Vector.replicate 80 0, pos := 0, prevPos := 0, limit := 2, lpf := m17core.limitState } := rfl

@[simp] theorem State.reset_syn (w : SynSel) : State.reset.syn w = Syn.reset := by
  cases w <;> rfl

@[simp] theorem State.reset_dcd :
    State.reset.dcd =
      { sdftIn := Sdft.reset m17core.dcdN, sdftOut := Sdft.reset m17core.dcdN, accIn := 0, accOut := 0, level := 0,
        locked := false } := rfl

@[simp] theorem State.reset_clk : State.reset.clk = Clk.reset := rfl

@[simp] theorem State.reset_dev :
    State.reset.dev = { offset := 0, idev := 1, deviation := 0, error := 0, acc := m17core.devEst.empty } := rfl

@[simp] theorem State.reset_frm_count : State.reset.frm.count = 0 := rfl

@[simp] theorem State.reset_fd_state : State.reset.fd.state = .lsf := rfl
@[simp] theorem State.reset_fd_lichMask : State.reset.fd.lichMask = 0 := rfl
@[simp] theorem State.reset_fd_lsf : State.reset.fd.lsf = Vector.replicate 30 0 := rfl
@[simp] theorem State.reset_fd_cost : State.reset.fd.cost = 0 := rfl

@[simp] theorem State.reset_dem :
    State.reset.dem =
      { state := .unlocked, syncWordType := .lsf, sampleIndex := 0, syncSampleIndex := 0, missingSyncCount := 0,
        syncCount := 0, costCount := 0, viterbiCost := 0, dcd := false, needClockReset := false,
        needClockUpdate := false, pollCount := 0, diagCount := 0,
        mf := List.replicate m17core.mfTaps.length 0 } := rfl

/-! ### The units the table gives in several copies -/

theorem State.reset_syn_isZero (w : SynSel) :
    (∀ k : Fin 10, (State.reset.syn w).samples[k] = 0) ∧ (State.reset.syn w).triggered = false ∧
      (State.reset.syn w).timingIndex = 0 ∧ (State.reset.syn w).updated = .zero := by
  simp

theorem State.reset_sdft_isZero :
    ∀ b ∈ [State.reset.dcd.sdftIn, State.reset.dcd.sdftOut],
      b.re = 0 ∧ b.im = 0 ∧ b.j = 0 ∧ (∀ x ∈ b.delay, x = 0) ∧ b.delay.length = m17core.dcdN := by
  intro b hb
  have hreset : b = Sdft.reset m17core.dcdN := by simpa using hb
  simp [hreset]

/-- Settles O16, in the order of rule R55: each part of the table is the value of its unit above; `dcdToDem` is the part
from the carrier detector's accumulators to the matched filter. -/
theorem resetValuesOfTheTable : Obligations.ResetValuesOfTheTable := by
  refine ⟨State.reset_core, State.reset_cfg, State.reset_crc, State.reset_cnvMem,
    ?corBuf, ?corLimit, ?corPos, ?corPrevPos, ?corLpf,
    State.reset_syn_isZero, State.reset_sdft_isZero, ?dcdToDem⟩
  case corBuf => simp
  case dcdToDem => simp
  all_goals simp only [State.reset_cor]

end Sys2Proof.Machine
end

/-! SUPPORT. The CRC unit (spec/40_crc16.md): the shift register is linear, what each of the unit's operations does to
the state, how its command words decode, and the three statements about it. -/

namespace Sys2Proof.Machine

open Sys2Proof

/-! ### One shift of the register -/

/-- `crcShift` of the unit is the shift of rule R112 for M17CORE's polynomial. -/
theorem crcShift_eq_crcShiftWith (reg : BitVec 16) (b : Bool) : crcShift reg b = crcShiftWith 0x5935 reg b := by
  unfold crcShift crcShiftWith Config.CRC_POLY
  split
  · rfl
  · exact (BitVec.xor_zero).symm

theorem crcShiftWith_false (poly reg : BitVec 16) :
    crcShiftWith poly reg false = (reg <<< 1) ^^^ (if reg.getLsbD 15 then poly else 0) := by
  simp [crcShiftWith]

/-- The bit that enters at bit 0 finds a 0 there: the `or` of rule R112 is an `xor`. -/
theorem crcShiftWith_eq_xor (poly reg : BitVec 16) (b : Bool) :
    crcShiftWith poly reg b =
      (reg <<< 1) ^^^ BitVec.ofNat 16 b.toNat ^^^ (if reg.getLsbD 15 then poly else 0) := by
  have hor : (reg <<< 1) ||| BitVec.ofNat 16 b.toNat = (reg <<< 1) ^^^ BitVec.ofNat 16 b.toNat := by
    cases b with
    | false => simp
    | true =>
      ext i hi
      cases i <;> simp [BitVec.getElem_one]
  rw [crcShiftWith, hor]

/-- A shift is linear in the register and the entering bit together. -/
theorem crcShiftWith_xor (poly x y : BitVec 16) (a b : Bool) :
    crcShiftWith poly (x ^^^ y) (a ^^ b) = crcShiftWith poly x a ^^^ crcShiftWith poly y b := by
  have hbit : BitVec.ofNat 16 (a ^^ b).toNat = BitVec.ofNat 16 a.toNat ^^^ BitVec.ofNat 16 b.toNat := by
    cases a <;> cases b <;> rfl
  have htap : (if (x ^^^ y).getLsbD 15 then poly else 0) =
      (if x.getLsbD 15 then poly else 0) ^^^ (if y.getLsbD 15 then poly else 0) := by
    rw [BitVec.getLsbD_xor]
    cases x.getLsbD 15 <;> cases y.getLsbD 15 <;> simp
  rw [crcShiftWith_eq_xor, crcShiftWith_eq_xor, crcShiftWith_eq_xor, BitVec.shiftLeft_xor_distrib, hbit, htap]
  ac_rfl

/-- No 1 leaves a register that holds the bits of `v` above bit `k`: the shift only brings in the next bit. -/
theorem crcShiftWith_ushiftRight (poly v : BitVec 16) (k : Nat) :
    crcShiftWith poly (v >>> (k + 1)) (v.getLsbD k) = v >>> k := by
  have htop : (v >>> (k + 1)).getLsbD 15 = false := by
    rw [BitVec.getLsbD_ushiftRight]
    exact BitVec.getLsbD_of_ge v _ (by omega)
  rw [crcShiftWith, htop]
  ext i hi
  cases i with
  | zero => cases h : v.getLsbD k <;> simp [h]
  | succ i => cases v.getLsbD k <;> simp [BitVec.getElem_one, Nat.add_assoc, Nat.add_comm 1 i]

/-! ### Shifting a list of bits through the register -/

/-- Linearity over a list: what the register holds, shifted on with zeros, and what the bits make of an empty register
add up. -/
theorem foldl_crcShiftWith_xor (poly x y : BitVec 16) (bs : List Bool) :
    bs.foldl (crcShiftWith poly) (x ^^^ y) =
      (List.replicate bs.length false).foldl (crcShiftWith poly) x ^^^ bs.foldl (crcShiftWith poly) y := by
  induction bs generalizing x y with
  | nil => rfl
  | cons b bs ih =>
    have hshift : crcShiftWith poly (x ^^^ y) b = crcShiftWith poly x false ^^^ crcShiftWith poly y b := by
      simpa using crcShiftWith_xor poly x y false b
    simp only [List.foldl_cons, List.length_cons, List.replicate_succ, hshift, ih]

/-- An empty register takes in the upper `n` bits of `v` unchanged. -/
theorem foldl_crcShiftWith_upperBits (poly v : BitVec 16) {n : Nat} (hn : n ≤ 16) :
    ((List.range n).map fun i => v.getLsbD (15 - i)).foldl (crcShiftWith poly) 0 = v >>> (16 - n) := by
  induction n with
  | zero => exact (BitVec.ushiftRight_eq_zero (Nat.le_refl 16)).symm
  | succ n ih =>
    have hk : 16 - n = 15 - n + 1 := by omega
    rw [List.range_succ, List.map_append, List.foldl_append, ih (by omega), hk]
    simpa [show 16 - (n + 1) = 15 - n by omega] using crcShiftWith_ushiftRight poly v (15 - n)

theorem foldl_crcShiftWith_bitsOf (poly v : BitVec 16) : (bitsOf v).foldl (crcShiftWith poly) 0 = v := by
  simpa [bitsOf] using foldl_crcShiftWith_upperBits poly v (Nat.le_refl 16)

/-- Zeros leave an empty register empty. -/
theorem foldl_crcShiftWith_zeros (poly : BitVec 16) (n : Nat) :
    (List.replicate n false).foldl (crcShiftWith poly) 0 = 0 := by
  have h : crcShiftWith poly 0 false = 0 := by simp [crcShiftWith]
  induction n with
  | zero => rfl
  | succ n ih => rw [List.replicate_succ, List.foldl_cons, h, ih]

/-! ### The checksum of any polynomial and seed -/

theorem bitsOfBytes_append (a b : List Byte) : bitsOfBytes (a ++ b) = bitsOfBytes a ++ bitsOfBytes b :=
  List.flatMap_append

/-- The two bytes of a checksum, high byte first, have its bits in order. -/
theorem bitsOfBytes_crcByteList (v : BitVec 16) : bitsOfBytes (crcByteList v) = bitsOf v := by
  simp [bitsOfBytes, crcByteList, bitsOf, List.range_succ]

/-- Rule R117 in its general form: the checksum bytes clear the register, the zeros after them keep it so. -/
theorem crcValue_append_crcByteList (poly seed : BitVec 16) (bytes : List Byte) :
    crcValue poly seed (bytes ++ crcByteList (crcValue poly seed bytes)) = 0 := by
  obtain ⟨r, hr⟩ : ∃ r, (bitsOfBytes bytes).foldl (crcShiftWith poly) seed = r := ⟨_, rfl⟩
  obtain ⟨v, hv⟩ : ∃ v, crcValue poly seed bytes = v := ⟨_, rfl⟩
  have hzeros : (List.replicate 16 false).foldl (crcShiftWith poly) r = v := by
    rw [← hv, crcValue, List.foldl_append, hr]
  have hclear : (bitsOf v).foldl (crcShiftWith poly) r = 0 := by
    calc (bitsOf v).foldl (crcShiftWith poly) r
        = (bitsOf v).foldl (crcShiftWith poly) (r ^^^ 0#16) := by rw [BitVec.xor_zero]
      _ = (List.replicate 16 false).foldl (crcShiftWith poly) r ^^^ (bitsOf v).foldl (crcShiftWith poly) 0 := by
          rw [foldl_crcShiftWith_xor]; simp [bitsOf]
      _ = v ^^^ v := by rw [hzeros, foldl_crcShiftWith_bitsOf]
      _ = 0 := BitVec.xor_self
  rw [hv, crcValue, bitsOfBytes_append, bitsOfBytes_crcByteList, List.foldl_append, List.foldl_append, hr, hclear,
    foldl_crcShiftWith_zeros]

/-! ### The unit's functions in terms of the shift -/

theorem crcUpdate_eq_foldl (reg : BitVec 16) (b : Byte) :
    crcUpdate reg b = (bitsOf b).foldl (crcShiftWith 0x5935) reg := by
  simp only [crcUpdate, funext fun r => funext (crcShift_eq_crcShiftWith r)]

theorem crcFinal_eq_foldl (reg : BitVec 16) :
    crcFinal reg = (List.replicate 16 false).foldl (crcShiftWith 0x5935) reg := by
  simp only [crcFinal, funext fun r => funext (crcShift_eq_crcShiftWith r)]

@[simp] theorem crcFold_nil (reg : BitVec 16) : crcFold reg [] = reg := rfl

@[simp] theorem crcFold_cons (reg : BitVec 16) (b : Byte) (bytes : List Byte) :
    crcFold reg (b :: bytes) = crcFold (crcUpdate reg b) bytes := rfl

@[simp] theorem crcFold_append (reg : BitVec 16) (a b : List Byte) :
    crcFold reg (a ++ b) = crcFold (crcFold reg a) b :=
  List.foldl_append

theorem crcFold_eq_foldl (reg : BitVec 16) (bytes : List Byte) :
    crcFold reg bytes = (bitsOfBytes bytes).foldl (crcShiftWith 0x5935) reg := by
  rw [bitsOfBytes, List.foldl_flatMap, crcFold]
  simp only [funext fun r => funext (crcUpdate_eq_foldl r)]

/-- `crc16` is the checksum for the seed and the polynomial that M17CORE fixes. -/
theorem crc16_eq_crcValue (bytes : List Byte) : crc16 bytes = crcValue 0x5935 0x36E6 bytes := by
  rw [crc16, crcFinal_eq_foldl, crcFold_eq_foldl, crcValue, List.foldl_append]
  rfl

/-- Rule R111: sixteen zero shifts carry the seed to 0xFFFF. -/
theorem crc16_nil : crc16 [] = 0xFFFF := by
  simp [crc16, crcFinal, crcShift, List.replicate, Config.CRC_SEED, Config.CRC_POLY]

/-- The eight shifts of rule R112, written with the index of the bit. -/
theorem crcUpdate_eq_foldl_range (reg : BitVec 16) (b : Byte) :
    crcUpdate reg b = (List.range 8).foldl
      (fun (reg : BitVec 16) k => ((reg <<< 1) ||| BitVec.ofNat 16 (b.getLsbD (7 - k)).toNat) ^^^
        (if reg.getLsbD 15 then 0x5935 else 0)) reg := by
  rw [crcUpdate_eq_foldl, bitsOf, List.foldl_map]
  rfl

/-- The sixteen shifts of rule R113, in which only zeros enter. -/
theorem crcFinal_eq_foldl_range (reg : BitVec 16) :
    crcFinal reg = (List.range 16).foldl
      (fun (reg : BitVec 16) _ => (reg <<< 1) ^^^ (if reg.getLsbD 15 then 0x5935 else 0)) reg := by
  have hzeros : List.replicate 16 false = (List.range 16).map fun _ => false := by simp
  rw [crcFinal_eq_foldl, hzeros, List.foldl_map]
  simp only [crcShiftWith_false]

/-! ### What each operation of the unit does to the state -/

theorem exec_crcReset (s : State) :
    exec .crcReset s = .next { s with crc := 0x36E6, rsp := s.rsp ++ [0x10000000] } := rfl

theorem exec_crcUpdate (b : Byte) (s : State) :
    exec (.crcUpdate b) s = .next { s with crc := crcUpdate s.crc b, rsp := s.rsp ++ [0x11000000] } := rfl

theorem exec_crcUpdaten {bytes : List Byte} (h1 : 1 ≤ bytes.length) (h2 : bytes.length ≤ 65535) (s : State) :
    exec (.crcUpdaten bytes) s = .next { s with crc := crcFold s.crc bytes, rsp := s.rsp ++ [0x12000000] } := by
  have hwf : (Instr.crcUpdaten bytes).wellFormed = true := by simp [Instr.wellFormed, h1, h2]
  exact if_pos hwf

/-- The zero extension of rule R113 puts sixteen zeros above the value. -/
theorem exec_crcFinal (s : State) :
    exec .crcFinal s = .next { s with rsp := s.rsp ++ [0x13000001, 0#16 ++ crcFinal s.crc] } := by
  have hword : (crcFinal s.crc).setWidth 32 = 0#16 ++ crcFinal s.crc := BitVec.setWidth_eq_append (by decide)
  have hrecord (v : Word32) : recordWords 0x13 statusOk [v] = [0x13000001, v] := by simp [recordWords, statusOk]
  rw [← hword, ← hrecord]
  rfl

/-- Two bytes fill the upper half of one word (rule R63). -/
theorem packBytes_crcByteList (v : BitVec 16) : packBytes (crcByteList v) = [v ++ 0#16] := by
  have hword : wordOfBytes (crcByteList v) = v ++ 0#16 := by
    have hv := v.isLt
    apply BitVec.eq_of_toNat_eq
    rw [BitVec.toNat_append, BitVec.toNat_ofNat, Nat.zero_mod, Nat.or_zero, Nat.shiftLeft_eq]
    simp [wordOfBytes, crcByteList, padTo, List.replicate, Nat.shiftRight_eq_div_pow]
    omega
  rw [← hword]
  rfl

theorem exec_crcBytes (s : State) :
    exec .crcBytes s = .next { s with rsp := s.rsp ++ [0x14000001, crcFinal s.crc ++ 0#16] } := by
  have hrecord (v : Word32) : recordWords 0x14 statusOk [v] = [0x14000001, v] := by simp [recordWords, statusOk]
  rw [← hrecord, ← packBytes_crcByteList]
  rfl

/-! ### Sequences of CRC operations -/

theorem execAll_cons_next {i : Instr} {s t : State} (h : exec i s = .next t) (is : List Instr) :
    execAll (i :: is) s = execAll is t := by
  simp only [execAll, h]

/-- Bytes given one command each are folded like those of one CRC_UPDATEN (rule R115). -/
theorem execAll_map_crcUpdate (bytes : List Byte) (s : State) :
    execAll (bytes.map .crcUpdate) s =
      .next { s with crc := crcFold s.crc bytes, rsp := s.rsp ++ List.replicate bytes.length 0x11000000 } := by
  induction bytes generalizing s with
  | nil => simp [execAll]
  | cons b bytes ih =>
    rw [List.map_cons, execAll_cons_next (exec_crcUpdate b s), ih]
    simp [List.replicate_succ]

theorem execAll_crcUpdaten_crcUpdaten {a b : List Byte} (ha : 1 ≤ a.length) (hb : 1 ≤ b.length)
    (hab : a.length + b.length ≤ 65535) (s : State) :
    execAll [.crcUpdaten a, .crcUpdaten b] s =
      .next { s with crc := crcFold s.crc (a ++ b), rsp := s.rsp ++ [0x12000000, 0x12000000] } := by
  rw [execAll_cons_next (exec_crcUpdaten ha (by omega) s), execAll_cons_next (exec_crcUpdaten hb (by omega) _)]
  simp [execAll]

theorem execAll_crcReset_crcUpdaten_crcFinal {bytes : List Byte} (h1 : 1 ≤ bytes.length) (h2 : bytes.length ≤ 65535)
    (s : State) :
    execAll [.crcReset, .crcUpdaten bytes, .crcFinal] s = .next { s with
      crc := crcFold 0x36E6 bytes
      rsp := s.rsp ++ [0x10000000, 0x12000000, 0x13000001, 0#16 ++ crc16 bytes] } := by
  rw [execAll_cons_next (exec_crcReset s), execAll_cons_next (exec_crcUpdaten h1 h2 _),
    execAll_cons_next (exec_crcFinal _)]
  simp [execAll, crc16, Config.CRC_SEED]

/-! ### Decoding the CRC commands -/

@[simp] theorem opOf_append (op : BitVec 8) (arg : BitVec 24) : opOf (op ++ arg) = op :=
  BitVec.extractLsb'_append_eq_left

@[simp] theorem argOf_append (op : BitVec 8) (arg : BitVec 24) : argOf (op ++ arg) = arg :=
  BitVec.extractLsb'_append_eq_right

theorem decode_of_reject {w : Word32} {c : FaultCause} (h : decodeCommand w = .reject c) (ws : List Word32) :
    decode (w :: ws) = .reject c w := by
  simp only [decode, h]

theorem decode_of_accept_zero {w : Word32} {build : List Word32 → Instr} (h : decodeCommand w = .accept 0 build)
    (ws : List Word32) : decode (w :: ws) = .instr (build []) 1 := by
  simp only [decode, h, Nat.not_lt_zero, if_false, List.take_zero, Nat.zero_add]

/-- Rule R91 (b) for an operation without payload: it is executed when its reserved bits are 0 and else rejected. -/
theorem decode_of_reserved {w : Word32} {bits arg : BitVec 24} {i : Instr}
    (h : decodeCommand w = reserved bits arg (.accept 0 fun _ => i)) (ws : List Word32) :
    decode (w :: ws) = if arg &&& bits = 0 then .instr i 1 else .reject .badArg w := by
  by_cases hz : arg &&& bits = 0
  · rw [decode_of_accept_zero (h.trans (if_pos hz)), if_pos hz]
  · rw [decode_of_reject (h.trans (if_neg hz)), if_neg hz]

/-- The reserved bits 23 to 8 of CRC_UPDATE as a field. -/
theorem and_highBits_eq_zero_iff (arg : BitVec 24) : arg &&& 0xFFFF00 = 0 ↔ arg.extractLsb' 8 16 = 0 := by
  have hsplit : arg &&& 0xFFFF00 = arg.extractLsb' 8 16 ++ 0#8 := by
    calc arg &&& 0xFFFF00
        = (arg.extractLsb' 8 16 ++ arg.extractLsb' 0 8) &&& (BitVec.allOnes 16 ++ 0#8) := by
          rw [BitVec.extractLsb'_append_extractLsb']; rfl
      _ = arg.extractLsb' 8 16 ++ 0#8 := by rw [BitVec.and_append, BitVec.and_allOnes, BitVec.and_zero]
  constructor
  · intro h
    calc arg.extractLsb' 8 16
        = (arg.extractLsb' 8 16 ++ 0#8).extractLsb' 8 16 := BitVec.extractLsb'_append_eq_left.symm
      _ = 0 := by rw [← hsplit, h]; rfl
  · intro h
    rw [hsplit, h]
    rfl

theorem decode_crcUpdate (arg : BitVec 24) :
    decode [0x11#8 ++ arg] =
      if arg.extractLsb' 8 16 = 0 then .instr (.crcUpdate (arg.extractLsb' 0 8)) 1
      else .reject .badArg (0x11#8 ++ arg) := by
  have h : decodeCommand (0x11#8 ++ arg) =
      reserved 0xFFFF00 arg (.accept 0 fun _ => .crcUpdate (arg.extractLsb' 0 8)) := by
    simp [decodeCommand]
  simp only [decode_of_reserved h, and_highBits_eq_zero_iff]

/-- Every bit of the argument is reserved. -/
theorem decode_of_plain {w : Word32} {arg : BitVec 24} {i : Instr} (h : decodeCommand w = plain arg i)
    (ws : List Word32) : decode (w :: ws) = if arg = 0 then .instr i 1 else .reject .badArg w := by
  have hall : arg &&& 0xFFFFFF = arg := BitVec.and_allOnes
  rw [decode_of_reserved h, hall]

theorem decode_crcFinal (arg : BitVec 24) :
    decode [0x13#8 ++ arg] = if arg = 0 then .instr .crcFinal 1 else .reject .badArg (0x13#8 ++ arg) :=
  decode_of_plain (by simp [decodeCommand]) []

theorem decode_crcBytes (arg : BitVec 24) :
    decode [0x14#8 ++ arg] = if arg = 0 then .instr .crcBytes 1 else .reject .badArg (0x14#8 ++ arg) :=
  decode_of_plain (by simp [decodeCommand]) []

/-- Rule R115: a count of 0 is outside its range, whatever words follow. -/
theorem decode_crcUpdaten_zero (ws : List Word32) : decode (0x12000000 :: ws) = .reject .badArg 0x12000000 :=
  decode_of_reject rfl ws

/-! ### The statements -/

/-- Settles O22: both ways of giving the bytes leave `crcFold` of them in the register. -/
theorem crcUpdateFoldsBytes : Obligations.CrcUpdateFoldsBytes := by
  refine ⟨?byte, ?bytes, ?split, decode_crcUpdate, decode_crcUpdaten_zero⟩
  case byte =>
    intro b s
    rw [exec_crcUpdate, crcUpdate_eq_foldl_range]
  case bytes =>
    intro bytes s h1 h2
    exact ⟨crcFold s.crc bytes, exec_crcUpdaten h1 h2 s, execAll_map_crcUpdate bytes s⟩
  case split =>
    intro a b s ha hb hab
    have hlen : (a ++ b).length = a.length + b.length := List.length_append
    exact ⟨crcFold s.crc (a ++ b), exec_crcUpdaten (by omega) (by omega) s,
      execAll_crcUpdaten_crcUpdaten ha hb hab s⟩

/-- Settles O23: the two reads append `crcFinal` of the register, in their two packings, and nothing else changes. -/
theorem crcFinalAndBytesReadOnly : Obligations.CrcFinalAndBytesReadOnly := by
  refine ⟨?reads, ?empty, ?sequence, fun arg => ⟨decode_crcFinal arg, decode_crcBytes arg⟩⟩
  case reads =>
    intro s
    rw [← crcFinal_eq_foldl_range]
    exact ⟨exec_crcFinal s, exec_crcBytes s⟩
  case empty => exact crc16_nil
  case sequence =>
    intro bytes s h1 h2
    exact execAll_crcReset_crcUpdaten_crcFinal h1 h2 s

/-- Settles O24: the general law, and `crc16` as its instance. -/
theorem crcOfAppendedChecksumIsZero : Obligations.CrcOfAppendedChecksumIsZero := by
  refine ⟨crcValue_append_crcByteList, fun bytes => ⟨crc16_eq_crcValue bytes, ?_⟩⟩
  rw [crc16_eq_crcValue (bytes ++ _), crc16_eq_crcValue]
  exact crcValue_append_crcByteList 0x5935 0x36E6 bytes

end Sys2Proof.Machine

/-! SUPPORT. The Golay unit (spec/41_golay24.md): the number of ones of a word, the reduction as a linear map, the layout
of a codeword, the syndrome table, and the three statements about them. -/

namespace Sys2Proof.Machine

open Sys2Proof

/-! ### The number of ones of a word -/

theorem popcount_eq_countP {n : Nat} (v : BitVec n) : popcount v = (List.range n).countP v.getLsbD :=
  List.countP_eq_length_filter.symm

@[simp] theorem popcount_zero (n : Nat) : popcount (0#n) = 0 := by
  simp [popcount_eq_countP]

/-- A word of one bit has that bit as its number of ones. -/
@[simp] theorem popcount_ofBool (b : Bool) : popcount (BitVec.ofBool b) = b.toNat := by
  cases b <;> rfl

theorem popcount_append {n m : Nat} (a : BitVec n) (b : BitVec m) : popcount (a ++ b) = popcount a + popcount b := by
  have hlow : (List.range m).countP (a ++ b).getLsbD = (List.range m).countP b.getLsbD :=
    List.countP_congr fun i hi => by rw [BitVec.getLsbD_append, if_pos (List.mem_range.1 hi)]
  have hhigh : (a ++ b).getLsbD ∘ (m + ·) = a.getLsbD :=
    funext fun i => by simp [BitVec.getLsbD_append]
  have hrange : List.range (n + m) = List.range m ++ (List.range n).map (m + ·) := by
    rw [Nat.add_comm, List.range_add]
  simp only [popcount_eq_countP, hrange, List.countP_append, List.countP_map, hlow, hhigh, Nat.add_comm]

theorem countP_xor_add {α : Type} (p q : α → Bool) (l : List α) :
    l.countP (fun i => p i ^^ q i) + 2 * l.countP (fun i => p i && q i) = l.countP p + l.countP q := by
  induction l with
  | nil => rfl
  | cons x l ih =>
    simp only [List.countP_cons]
    cases p x <;> cases q x <;> simp <;> omega

/-- The ones two words have in common cancel. -/
theorem popcount_xor_add {n : Nat} (a b : BitVec n) :
    popcount (a ^^^ b) + 2 * popcount (a &&& b) = popcount a + popcount b := by
  have hxor : (a ^^^ b).getLsbD = fun i => a.getLsbD i ^^ b.getLsbD i := funext fun i => BitVec.getLsbD_xor
  have hand : (a &&& b).getLsbD = fun i => a.getLsbD i && b.getLsbD i := funext fun i => BitVec.getLsbD_and
  simpa only [popcount_eq_countP, hxor, hand] using countP_xor_add a.getLsbD b.getLsbD (List.range n)

theorem popcount_xor_le {n : Nat} (a b : BitVec n) : popcount (a ^^^ b) ≤ popcount a + popcount b := by
  have h := popcount_xor_add a b
  omega

theorem parity_eq_decide {n : Nat} (v : BitVec n) : parity v = decide (popcount v % 2 = 1) :=
  rfl

/-! ### A word as the sum of its bits -/

/-- The sum of the words of one bit at the places of `ps`; on 23 bits this is `golayPattern`. -/
def sumOfBits (n : Nat) (ps : List Nat) : BitVec n :=
  ps.foldl (fun e i => e ^^^ (1#n <<< i)) 0

theorem golayPattern_eq_sumOfBits (ps : List Nat) : golayPattern ps = sumOfBits 23 ps := rfl

@[simp] theorem sumOfBits_nil (n : Nat) : sumOfBits n [] = 0 := rfl

@[simp] theorem sumOfBits_concat (n : Nat) (ps : List Nat) (i : Nat) :
    sumOfBits n (ps ++ [i]) = sumOfBits n ps ^^^ (1#n <<< i) :=
  List.foldl_append

/-- The order of the places does not matter. -/
theorem sumOfBits_reverse (n : Nat) (ps : List Nat) : sumOfBits n ps.reverse = sumOfBits n ps := by
  refine (List.reverse_perm ps).foldl_eq' (fun x _ y _ e => ?_) 0
  ac_rfl

theorem getLsbD_singleBit (n i j : Nat) : (1#n <<< i).getLsbD j = (decide (j < n) && decide (j = i)) := by
  rw [BitVec.getLsbD_shiftLeft, BitVec.getLsbD_one]
  grind

theorem popcount_singleBit_le (n i : Nat) : popcount (1#n <<< i) ≤ 1 := by
  calc popcount (1#n <<< i)
      ≤ (List.range n).countP (· == i) := by
        rw [popcount_eq_countP]
        refine List.countP_mono_left fun j _ hj => ?_
        rw [getLsbD_singleBit, Bool.and_eq_true] at hj
        simpa using hj.2
    _ ≤ 1 := List.nodup_iff_count_le_one.1 List.nodup_range i

theorem popcount_sumOfBits_le (n : Nat) (ps : List Nat) : popcount (sumOfBits n ps) ≤ ps.length := by
  induction ps using List.reverseRecOn with
  | nil => simp
  | append_singleton ps i ih =>
    have hxor := popcount_xor_le (sumOfBits n ps) (1#n <<< i)
    have hbit := popcount_singleBit_le n i
    rw [sumOfBits_concat, List.length_append, List.length_singleton]
    omega

/-- The places of the ones of `v`, lowest first: as many as `popcount v` says (rule R15). -/
def onesOf {n : Nat} (v : BitVec n) : List Nat :=
  (List.range n).filter v.getLsbD

@[simp] theorem length_onesOf {n : Nat} (v : BitVec n) : (onesOf v).length = popcount v := rfl

theorem getLsbD_sumOfBits_filter_range {n : Nat} (v : BitVec n) (k i : Nat) :
    (sumOfBits n ((List.range k).filter v.getLsbD)).getLsbD i = (decide (i < k) && v.getLsbD i) := by
  induction k with
  | zero => simp
  | succ k ih =>
    have hsplit : (decide (i < k + 1) && v.getLsbD i) =
        ((decide (i < k) && v.getLsbD i) ^^ (decide (i = k) && v.getLsbD k)) := by grind
    rw [List.range_succ, List.filter_append, hsplit, ← ih]
    cases hv : v.getLsbD k with
    | false => simp [hv]
    | true =>
      have hbit : (decide (i < n) && decide (i = k)) = decide (i = k) := by grind [BitVec.lt_of_getLsbD hv]
      rw [List.filter_cons_of_pos hv, List.filter_nil, sumOfBits_concat, BitVec.getLsbD_xor, getLsbD_singleBit, hbit,
        Bool.and_true]

theorem sumOfBits_onesOf {n : Nat} (v : BitVec n) : sumOfBits n (onesOf v) = v := by
  apply BitVec.eq_of_getLsbD_eq
  intro i hi
  rw [onesOf, getLsbD_sumOfBits_filter_range, decide_eq_true hi, Bool.true_and]

/-- A linear map is 0 everywhere when it is 0 on the words of one bit. -/
theorem eq_zero_of_linear {n m : Nat} {f : BitVec n → BitVec m} (hxor : ∀ a b, f (a ^^^ b) = f a ^^^ f b)
    (hbit : ∀ i < n, f (1#n <<< i) = 0) (v : BitVec n) : f v = 0 := by
  have hsum (ps : List Nat) (hps : ∀ i ∈ ps, i < n) : f (sumOfBits n ps) = 0 := by
    induction ps using List.reverseRecOn with
    | nil => simpa using hxor 0 0
    | append_singleton ps i ih =>
      rw [sumOfBits_concat, hxor, ih fun j hj => hps j (by simp [hj]), hbit i (hps i (by simp))]
      exact BitVec.xor_zero
  rw [← sumOfBits_onesOf v]
  exact hsum _ fun i hi => List.mem_range.1 (List.mem_filter.1 hi).1

/-! ### The reduction and the syndrome -/

theorem golayReduceStep_eq (v : BitVec 23) :
    golayReduceStep v = (v ^^^ (if v.getLsbD 0 then Config.GOLAY_POLY else 0)) >>> 1 := by
  rw [golayReduceStep]
  cases v.getLsbD 0 <;> simp

theorem golayReduceStep_xor (a b : BitVec 23) :
    golayReduceStep (a ^^^ b) = golayReduceStep a ^^^ golayReduceStep b := by
  have htap : (if (a ^^^ b).getLsbD 0 then Config.GOLAY_POLY else 0) =
      (if a.getLsbD 0 then Config.GOLAY_POLY else 0) ^^^ (if b.getLsbD 0 then Config.GOLAY_POLY else 0) := by
    rw [BitVec.getLsbD_xor]
    cases a.getLsbD 0 <;> cases b.getLsbD 0 <;> simp
  simp only [golayReduceStep_eq, ← BitVec.ushiftRight_xor_distrib, htap]
  congr 1
  ac_rfl

theorem golayReduce_xor (a b : BitVec 23) : golayReduce (a ^^^ b) = golayReduce a ^^^ golayReduce b := by
  have hrepeat (n : Nat) : Nat.repeat golayReduceStep n (a ^^^ b) =
      Nat.repeat golayReduceStep n a ^^^ Nat.repeat golayReduceStep n b := by
    induction n with
    | zero => rfl
    | succ n ih => simp only [Nat.repeat, ih, golayReduceStep_xor]
  exact hrepeat 12

/-- Rule R123: the syndrome is linear. -/
theorem golaySyndrome_xor (a b : BitVec 23) : golaySyndrome (a ^^^ b) = golaySyndrome a ^^^ golaySyndrome b := by
  simp only [golaySyndrome, golayReduce_xor, BitVec.setWidth_xor]

/-- A step takes away the lowest bit; the polynomial has twelve bits and does not reach above the word's own. -/
theorem golayReduceStep_lt {k : Nat} (hk : 11 ≤ k) {v : BitVec 23} (hv : v.toNat < 2 ^ (k + 1)) :
    (golayReduceStep v).toNat < 2 ^ k := by
  have hpoly : Config.GOLAY_POLY.toNat < 2 ^ (k + 1) :=
    Nat.lt_of_lt_of_le (by decide : _ < 2 ^ 12) (Nat.pow_le_pow_right (by decide) (by omega))
  have hhalf {x : BitVec 23} (hx : x.toNat < 2 ^ (k + 1)) : (x >>> 1).toNat < 2 ^ k := by
    rw [BitVec.toNat_ushiftRight, Nat.shiftRight_eq_div_pow]
    omega
  rw [golayReduceStep]
  split
  · exact hhalf (by rw [BitVec.toNat_xor]; exact Nat.xor_lt_two_pow hv hpoly)
  · exact hhalf hv

/-- Rule R121: the reduction of any word fits in 11 bits. -/
theorem golayReduce_lt (v : BitVec 23) : (golayReduce v).toNat < 2 ^ 11 := by
  have hrepeat (n : Nat) (hn : n ≤ 12) : (Nat.repeat golayReduceStep n v).toNat < 2 ^ (23 - n) := by
    induction n with
    | zero => exact v.isLt
    | succ n ih =>
      have hsucc : 23 - n = 23 - (n + 1) + 1 := by omega
      exact golayReduceStep_lt (by omega) (hsucc ▸ ih (by omega))
  exact hrepeat 12 (Nat.le_refl 12)

/-- The syndrome loses nothing of the reduction. -/
theorem setWidth_golaySyndrome (v : BitVec 23) : (golaySyndrome v).setWidth 23 = golayReduce v := by
  apply BitVec.eq_of_toNat_eq
  have h := golayReduce_lt v
  simp only [golaySyndrome, BitVec.toNat_setWidth]
  omega

/-! ### The codeword -/

/-- The eleven check bits of `d`. -/
def golayChecks (d : BitVec 12) : BitVec 11 :=
  golaySyndrome (d.setWidth 23)

/-- Rule R122: the code is systematic. -/
theorem golayEnc23_eq_append (d : BitVec 12) : golayEnc23 d = d ++ golayChecks d := by
  calc golayEnc23 d
      = d.setWidth 23 <<< 11 ||| (golayChecks d).setWidth 23 := by rw [golayChecks, setWidth_golaySyndrome]; rfl
    _ = (d ++ golayChecks d).setWidth 23 := BitVec.setWidth_append_eq_shiftLeft_setWidth_or.symm
    _ = d ++ golayChecks d := BitVec.setWidth_eq _

theorem golayEnc24_eq_append (d : BitVec 12) :
    golayEnc24 d = golayEnc23 d ++ BitVec.ofBool (parity (golayEnc23 d)) := by
  have hbit (b : Bool) : BitVec.ofNat 24 b.toNat = (BitVec.ofBool b).setWidth 24 := by cases b <;> rfl
  rw [golayEnc24, hbit, ← BitVec.setWidth_append_eq_shiftLeft_setWidth_or, BitVec.setWidth_eq]

theorem golayEnc23_xor (a b : BitVec 12) : golayEnc23 (a ^^^ b) = golayEnc23 a ^^^ golayEnc23 b := by
  simp only [golayEnc23_eq_append, golayChecks, BitVec.setWidth_xor, golaySyndrome_xor]
  exact BitVec.xor_append.symm

/-- Rule R123: a codeword has the syndrome 0.  The syndrome of the codeword is linear in the data, so the twelve data words
of one bit suffice. -/
theorem golaySyndrome_golayEnc23 (d : BitVec 12) : golaySyndrome (golayEnc23 d) = 0 := by
  refine eq_zero_of_linear (f := fun d => golaySyndrome (golayEnc23 d)) (fun a b => ?_) (by decide +kernel) d
  rw [golayEnc23_xor, golaySyndrome_xor]

/-- Rule R122: the overall parity bit makes the weight even. -/
theorem popcount_golayEnc24 (d : BitVec 12) : popcount (golayEnc24 d) % 2 = 0 := by
  rw [golayEnc24_eq_append, popcount_append, popcount_ofBool, parity_eq_decide]
  by_cases h : popcount (golayEnc23 d) % 2 = 1
  · simp only [h, decide_true, Bool.toNat_true]
    omega
  · simp only [h, decide_false, Bool.toNat_false]
    omega

/-! ### The syndrome table -/

/-- The table is built from the places of the ones, highest first. -/
theorem golayPattern_mem_golayPatterns {ps : List Nat} (hlt : ∀ i ∈ ps, i < 23) (hdesc : ps.Pairwise (· > ·))
    (hlen : ps.length ≤ 3) : golayPattern ps ∈ golayPatterns := by
  simp only [golayPatterns, List.mem_append, List.mem_singleton, List.mem_map, List.mem_flatMap, List.mem_range]
  match ps with
  | [] => exact .inl (.inl (.inl rfl))
  | [i] => exact .inl (.inl (.inr ⟨i, by simpa using hlt, rfl⟩))
  | [i, j] =>
    simp only [List.mem_cons, List.pairwise_cons, forall_eq_or_imp] at hlt hdesc
    exact .inl (.inr ⟨i, hlt.1, j, hdesc.1.1, rfl⟩)
  | [i, j, k] =>
    simp only [List.mem_cons, List.pairwise_cons, forall_eq_or_imp] at hlt hdesc
    exact .inr ⟨i, hlt.1, j, hdesc.1.1, k, hdesc.2.1.1, rfl⟩
  | _ :: _ :: _ :: _ :: _ =>
    simp only [List.length_cons] at hlen
    omega

/-- Rule R124: the table is built from exactly the words with at most three ones. -/
theorem mem_golayPatterns_iff (e : BitVec 23) : e ∈ golayPatterns ↔ popcount e ≤ 3 := by
  constructor
  · intro h
    have hps : ∃ ps : List Nat, ps.length ≤ 3 ∧ golayPattern ps = e := by
      simp only [golayPatterns, List.mem_append, List.mem_singleton, List.mem_map, List.mem_flatMap] at h
      obtain ((h | ⟨i, -, h⟩) | ⟨i, -, j, -, h⟩) | ⟨i, -, j, -, k, -, h⟩ := h
      · exact ⟨[], by decide, h.symm⟩
      · exact ⟨[i], by simp, h⟩
      · exact ⟨[i, j], by simp, h⟩
      · exact ⟨[i, j, k], by simp, h⟩
    obtain ⟨ps, hlen, rfl⟩ := hps
    rw [golayPattern_eq_sumOfBits]
    exact Nat.le_trans (popcount_sumOfBits_le 23 ps) hlen
  · intro h
    have hones : golayPattern (onesOf e).reverse = e := by
      rw [golayPattern_eq_sumOfBits, sumOfBits_reverse, sumOfBits_onesOf]
    have hdesc : (onesOf e).reverse.Pairwise (· > ·) :=
      List.pairwise_reverse.2 (List.pairwise_lt_range.filter _)
    rw [← hones]
    refine golayPattern_mem_golayPatterns (fun i hi => ?_) hdesc (by simpa using h)
    exact List.mem_range.1 (List.mem_filter.1 (List.mem_reverse.1 hi)).1

/-- The number whose bit `n` says that some word of `es` has the syndrome `n`. -/
def syndromeSet (es : List (BitVec 23)) : Nat :=
  es.foldr (fun e m => m ||| 1 <<< (golaySyndrome e).toNat) 0

theorem testBit_syndromeSet (es : List (BitVec 23)) (n : Nat) :
    (syndromeSet es).testBit n = true ↔ ∃ e ∈ es, (golaySyndrome e).toNat = n := by
  induction es with
  | nil => simp [syndromeSet]
  | cons e es ih =>
    have hcons : syndromeSet (e :: es) = syndromeSet es ||| 1 <<< (golaySyndrome e).toNat := rfl
    rw [hcons, Nat.testBit_or, Bool.or_eq_true, ih, Nat.one_shiftLeft, Nat.testBit_two_pow, decide_eq_true_eq,
      List.exists_mem_cons_iff]
    exact or_comm

/-- Rule R124, by enumeration of the 2048 patterns: their syndromes are all 2048 values. -/
theorem syndromeSet_golayPatterns : syndromeSet golayPatterns = 2 ^ 2048 - 1 := by
  decide +kernel

theorem exists_mem_golayPatterns (x : BitVec 11) : ∃ e ∈ golayPatterns, golaySyndrome e = x := by
  have hbit : (syndromeSet golayPatterns).testBit x.toNat = true := by
    rw [syndromeSet_golayPatterns, Nat.testBit_two_pow_sub_one]
    exact decide_eq_true x.isLt
  obtain ⟨e, he, hx⟩ := (testBit_syndromeSet golayPatterns x.toNat).1 hbit
  exact ⟨e, he, BitVec.eq_of_toNat_eq hx⟩

/-- Rule R124: 2048 patterns that take 2048 values take each of them once. -/
theorem nodup_map_golaySyndrome : (golayPatterns.map golaySyndrome).Nodup := by
  have hall : (golayPatterns.map golaySyndrome).toFinset = Finset.univ :=
    Finset.eq_univ_of_forall fun x => List.mem_toFinset.2 (List.mem_map.2 (exists_mem_golayPatterns x))
  have hlen : (golayPatterns.map golaySyndrome).length = 2048 := by
    rw [List.length_map]
    decide +kernel
  have hcard : (golayPatterns.map golaySyndrome).toFinset.card = (golayPatterns.map golaySyndrome).length := by
    rw [hall, Finset.card_univ, hlen, ← FinEnum.card_eq_fintypeCard, FinEnum.card_bitVec]
    rfl
  exact Multiset.toFinset_card_eq_card_iff_nodup.1 hcard

/-- The syndrome tells the words of at most three ones apart: the code corrects three errors. -/
theorem eq_of_golaySyndrome_eq {a b : BitVec 23} (ha : popcount a ≤ 3) (hb : popcount b ≤ 3)
    (h : golaySyndrome a = golaySyndrome b) : a = b :=
  List.inj_on_of_nodup_map nodup_map_golaySyndrome ((mem_golayPatterns_iff a).2 ha) ((mem_golayPatterns_iff b).2 hb) h

theorem golayLut_eq_some_iff (x : BitVec 11) (e : BitVec 23) :
    golayLut x = some e ↔ popcount e ≤ 3 ∧ golaySyndrome e = x := by
  have hfound {e : BitVec 23} (h : golayLut x = some e) : popcount e ≤ 3 ∧ golaySyndrome e = x :=
    ⟨(mem_golayPatterns_iff e).1 (List.mem_of_find?_eq_some h),
      beq_iff_eq.1 (List.find?_some (p := fun e => golaySyndrome e == x) h)⟩
  refine ⟨hfound, fun ⟨hweight, hsyn⟩ => ?_⟩
  cases h : golayLut x with
  | none =>
    have hno := List.find?_eq_none.1 h e ((mem_golayPatterns_iff e).2 hweight)
    exact absurd (beq_iff_eq.2 hsyn) hno
  | some e' =>
    obtain ⟨hweight', hsyn'⟩ := hfound h
    rw [eq_of_golaySyndrome_eq hweight' hweight (hsyn'.trans hsyn.symm)]

theorem exists_golayLut_eq_some (x : BitVec 11) : ∃ e, golayLut x = some e := by
  obtain ⟨e, hmem, hsyn⟩ := exists_mem_golayPatterns x
  exact ⟨e, (golayLut_eq_some_iff x e).2 ⟨(mem_golayPatterns_iff e).1 hmem, hsyn⟩⟩

/-! ### The decoder -/

/-- Rule R125, with the table's pattern given: the pattern is laid over the 23 code bits and the parity gate is on the
corrected word. -/
theorem golayDec24_of_lut {w : BitVec 24} {e : BitVec 23}
    (h : golayLut (golaySyndrome (w.extractLsb' 1 23)) = some e) :
    golayDec24 w = if popcount e ≤ 2 ∨ popcount (w ^^^ (e ++ 0#1)) % 2 = 0 then
      some ((w ^^^ (e ++ 0#1)).extractLsb' 12 12) else none := by
  have hshift : e.setWidth 24 <<< 1 = e ++ 0#1 := by
    simpa using (BitVec.setWidth_append_eq_shiftLeft_setWidth_or (b := e) (b' := 0#1) (w'' := 24)).symm
  have hgate (v : BitVec 24) :
      (decide (popcount e ≤ 2) || !parity v) = true ↔ popcount e ≤ 2 ∨ popcount v % 2 = 0 := by
    rw [parity_eq_decide]
    simp
  simp only [golayDec24, h, hshift, hgate]

/-- The data bits stand above the check bits, whatever the overall parity bit is. -/
theorem extractLsb'_golayEnc23_append (d : BitVec 12) (x : BitVec 1) :
    (golayEnc23 d ++ x).extractLsb' 12 12 = d := by
  rw [golayEnc23_eq_append, BitVec.extractLsb'_append_eq_of_le (by decide), BitVec.extractLsb'_append_eq_left]

theorem golayEnc24_xor_append (d : BitVec 12) (g : BitVec 23) (q : BitVec 1) :
    golayEnc24 d ^^^ (g ++ q) = (golayEnc23 d ^^^ g) ++ (BitVec.ofBool (parity (golayEnc23 d)) ^^^ q) := by
  rw [golayEnc24_eq_append]
  exact BitVec.xor_append

/-- Rule R123: the syndrome of a corrupted codeword is that of the corruption. -/
theorem golaySyndrome_corrupted (d : BitVec 12) (g : BitVec 23) (q : BitVec 1) :
    golaySyndrome ((golayEnc24 d ^^^ (g ++ q)).extractLsb' 1 23) = golaySyndrome g := by
  rw [golayEnc24_xor_append, BitVec.extractLsb'_append_eq_left, golaySyndrome_xor, golaySyndrome_golayEnc23]
  exact BitVec.zero_xor

/-- Rule R126: with at most three ones in `g` and `q` together, the table gives `g` back; when `g` alone has three, the
overall parity bit is right and the corrected word passes the gate. -/
theorem golayDec24_corrupted (d : BitVec 12) (g : BitVec 23) (q : BitVec 1) (hw : popcount g + popcount q ≤ 3) :
    golayDec24 (golayEnc24 d ^^^ (g ++ q)) = some d := by
  have hlut : golayLut (golaySyndrome ((golayEnc24 d ^^^ (g ++ q)).extractLsb' 1 23)) = some g := by
    rw [golaySyndrome_corrupted, golayLut_eq_some_iff]
    exact ⟨by omega, rfl⟩
  have hfixed : golayEnc24 d ^^^ (g ++ q) ^^^ (g ++ 0#1) = golayEnc24 d ^^^ (0#23 ++ q) := by
    rw [BitVec.xor_assoc, BitVec.xor_append, BitVec.xor_self, BitVec.xor_zero]
  have hgate : popcount g ≤ 2 ∨ popcount (golayEnc24 d ^^^ (0#23 ++ q)) % 2 = 0 := by
    rcases Nat.lt_or_ge 2 (popcount g) with hthree | htwo
    · have hq : q = 0#1 := (by decide : ∀ q : BitVec 1, popcount q = 0 → q = 0#1) q (by omega)
      have hsame : golayEnc24 d ^^^ (0#23 ++ q) = golayEnc24 d := by
        rw [hq]
        exact BitVec.xor_zero
      right
      rw [hsame, popcount_golayEnc24]
    · exact .inl htwo
  rw [golayDec24_of_lut hlut, hfixed, if_pos hgate, golayEnc24_xor_append, BitVec.xor_zero,
    extractLsb'_golayEnc23_append]

/-! ### What the two operations do to the state -/

theorem exec_golayEnc (d : BitVec 12) (s : State) :
    exec (.golayEnc d) s = .next { s with rsp := s.rsp ++ [0x20000001, 0#8 ++ golayEnc24 d] } := by
  have hword : (golayEnc24 d).setWidth 32 = 0#8 ++ golayEnc24 d := BitVec.setWidth_eq_append (by decide)
  have hrecord (v : Word32) : recordWords 0x20 statusOk [v] = [0x20000001, v] := by simp [recordWords, statusOk]
  rw [← hword, ← hrecord]
  rfl

theorem exec_golayDec (w : BitVec 24) (s : State) :
    exec (.golayDec w) s = .next (golayResponse (golayDec24 w) s) := rfl

theorem golayResponse_some (d : BitVec 12) (s : State) :
    golayResponse (some d) s = { s with rsp := s.rsp ++ [0x21000001, 0#20 ++ d] } := by
  have hword : d.setWidth 32 = 0#20 ++ d := BitVec.setWidth_eq_append (by decide)
  have hrecord (v : Word32) : recordWords 0x21 statusOk [v] = [0x21000001, v] := by simp [recordWords, statusOk]
  rw [← hword, ← hrecord]
  rfl

theorem golayResponse_none (s : State) : golayResponse none s = { s with rsp := s.rsp ++ [0x21100000] } := by
  have hrecord : recordWords 0x21 statusUncorrectable [] = [0x21100000] := by simp [recordWords, statusUncorrectable]
  rw [← hrecord]
  rfl

/-! ### Decoding GOLAY_ENC -/

/-- Reserved bits that are all the bits from `m` up, as a field. -/
theorem and_allOnes_append_eq_zero_iff {n m : Nat} (v : BitVec (n + m)) :
    v &&& (BitVec.allOnes n ++ 0#m) = 0 ↔ v.extractLsb' m n = 0 := by
  have hsplit : v &&& (BitVec.allOnes n ++ 0#m) = v.extractLsb' m n ++ 0#m := by
    calc v &&& (BitVec.allOnes n ++ 0#m)
        = (v.extractLsb' m n ++ v.extractLsb' 0 m) &&& (BitVec.allOnes n ++ 0#m) := by
          rw [BitVec.extractLsb'_append_extractLsb']
      _ = v.extractLsb' m n ++ 0#m := by rw [BitVec.and_append, BitVec.and_allOnes, BitVec.and_zero]
  have hzero : (0 : BitVec (n + m)) = 0#n ++ 0#m := by simp
  rw [hsplit, hzero, BitVec.append_left_inj]
  rfl

theorem decode_golayEnc (arg : BitVec 24) :
    decode [0x20#8 ++ arg] =
      if arg.extractLsb' 12 12 = 0 then .instr (.golayEnc (arg.extractLsb' 0 12)) 1
      else .reject .badArg (0x20#8 ++ arg) := by
  have h : decodeCommand (0x20#8 ++ arg) =
      reserved (BitVec.allOnes 12 ++ 0#12) arg (.accept 0 fun _ => .golayEnc (arg.extractLsb' 0 12)) := by
    simp [decodeCommand]
  simp only [decode_of_reserved h, and_allOnes_append_eq_zero_iff (n := 12) (m := 12)]

/-! ### The statements -/

/-- Settles O26: the layout is that of `golayEnc24_eq_append`; the worked values are evaluated. -/
theorem golayEncodeIsSystematic : Obligations.GolayEncodeIsSystematic := by
  refine ⟨fun d s => ⟨golayChecks d, BitVec.ofBool (parity (golayEnc23 d)), ?_⟩, by decide +kernel, by decide +kernel,
    by decide +kernel, by decide +kernel, by decide +kernel, by decide +kernel, decode_golayEnc⟩
  rw [← golayEnc23_eq_append, ← golayEnc24_eq_append]
  exact ⟨exec_golayEnc d s, popcount_golayEnc24 d, golaySyndrome_golayEnc23 d, rfl⟩

/-- Settles O27: `golayLut_eq_some_iff` is the table, `golayDec24_of_lut` the gate. -/
theorem golayTableIsPerfectAndGated : Obligations.GolayTableIsPerfectAndGated := by
  refine ⟨?total, ?finds, ?gated⟩
  case total =>
    intro x
    obtain ⟨e, he⟩ := exists_golayLut_eq_some x
    exact ⟨e, he, (golayLut_eq_some_iff x e).1 he⟩
  case finds =>
    intro e he
    exact (golayLut_eq_some_iff _ e).2 ⟨he, rfl⟩
  case gated =>
    intro w e s he
    rw [exec_golayDec, golayDec24_of_lut he]
    split
    · rw [golayResponse_some]
    · rw [golayResponse_none]

/-- Settles O28: the corruption is split into its part on the 23 code bits and the overall parity bit. -/
theorem golayCorrectsUpToThreeErrors : Obligations.GolayCorrectsUpToThreeErrors := by
  intro d f s hf
  obtain ⟨g, q, rfl⟩ : ∃ (g : BitVec 23) (q : BitVec 1), f = g ++ q :=
    ⟨f.extractLsb' 1 23, f.extractLsb' 0 1, (BitVec.extractLsb'_append_extractLsb' (w := 23) (len := 1)).symm⟩
  have hw : popcount g + popcount q ≤ 3 := popcount_append g q ▸ hf
  rw [exec_golayDec, golayDec24_corrupted d g q hw, golayResponse_some]

end Sys2Proof.Machine

/-! SUPPORT. The randomizer (spec/44_interleaver_randomizer.md rules R180 to R182): the scrambling sequence bit by bit, what
the two transforms do to each element, what RANDOMIZE and DERANDOMIZE do to the state, and the statement about them.  Of
the table only its length is used. -/

namespace Sys2Proof.Machine

open Sys2Proof

/-! ### The scrambling sequence -/

@[simp] theorem length_bitsOf {n : Nat} (v : BitVec n) : (bitsOf v).length = n := by
  simp [bitsOf]

@[simp] theorem bitsOfBytes_cons (b : Byte) (bytes : List Byte) :
    bitsOfBytes (b :: bytes) = bitsOf b ++ bitsOfBytes bytes := rfl

@[simp] theorem length_bitsOfBytes (bytes : List Byte) : (bitsOfBytes bytes).length = 8 * bytes.length := by
  induction bytes with
  | nil => rfl
  | cons b bytes ih =>
    rw [bitsOfBytes_cons, List.length_append, length_bitsOf, ih, List.length_cons]
    omega

theorem getD_bitsOf {b : Byte} {i : Nat} (hi : i < 8) : (bitsOf b).getD i false = b.getLsbD (7 - i) := by
  simp [bitsOf, hi]

/-- Rule R14: bit `i` of a byte string is bit `7 - i % 8` of byte `i / 8`. -/
theorem getD_bitsOfBytes (bytes : List Byte) (i : Nat) :
    (bitsOfBytes bytes).getD i false = (bytes.getD (i / 8) 0).getLsbD (7 - i % 8) := by
  induction bytes generalizing i with
  | nil => simp [bitsOfBytes]
  | cons b bytes ih =>
    rw [bitsOfBytes_cons]
    rcases Nat.lt_or_ge i 8 with hi | hi
    · rw [List.getD_append _ _ _ _ (by simpa using hi), getD_bitsOf hi, Nat.div_eq_of_lt hi, Nat.mod_eq_of_lt hi,
        List.getD_cons_zero]
    · obtain ⟨j, rfl⟩ : ∃ j, i = j + 8 := ⟨i - 8, by omega⟩
      rw [List.getD_append_right _ _ _ _ (by simp), length_bitsOf, Nat.add_sub_cancel, ih,
        Nat.add_div_right j (by decide), Nat.add_mod_right, List.getD_cons_succ]

/-! ### An element-wise transform -/

theorem getD_zipWith {α β γ : Type} (f : α → β → γ) {xs : List α} {ys : List β} {i : Nat} (hx : i < xs.length)
    (hy : i < ys.length) (a : α) (b : β) (c : γ) :
    (List.zipWith f xs ys).getD i c = f (xs.getD i a) (ys.getD i b) := by
  simp [hx, hy]

/-- A transform that each key undoes on every element undoes itself on a list no longer than its keys. -/
theorem zipWith_zipWith_of_involutive {α β : Type} {f : α → β → α} (hf : ∀ a b, f (f a b) b = a) {xs : List α}
    {ys : List β} (h : xs.length ≤ ys.length) : List.zipWith f (List.zipWith f xs ys) ys = xs := by
  induction xs generalizing ys with
  | nil => rfl
  | cons x xs ih =>
    cases ys with
    | nil => exact absurd h (Nat.not_succ_le_zero _)
    | cons y ys => rw [List.zipWith_cons_cons, List.zipWith_cons_cons, hf, ih (Nat.le_of_succ_le_succ h)]

/-! ### The two transforms -/

section
variable {seq : List Byte}

@[simp] theorem length_randBits : (randBits seq).length = 8 * seq.length :=
  length_bitsOfBytes seq

theorem getD_randBits (i : Nat) :
    (randBits seq).getD i false = (seq.getD (i / 8) 0).getLsbD (7 - i % 8) :=
  getD_bitsOfBytes seq i

theorem length_randomize {x : List Bool} (h : x.length ≤ 8 * seq.length) : (randomize seq x).length = x.length := by
  simpa [randomize] using h

theorem length_derandomize {l : List Llr} (h : l.length ≤ 8 * seq.length) : (derandomize seq l).length = l.length := by
  simpa [derandomize] using h

/-- Rule R181 at one bit. -/
theorem getD_randomize {x : List Bool} (h : x.length ≤ 8 * seq.length) {i : Nat} (hi : i < x.length) :
    (randomize seq x).getD i false = (x.getD i false ^^ (seq.getD (i / 8) 0).getLsbD (7 - i % 8)) := by
  rw [randomize, getD_zipWith _ hi (by simpa using hi.trans_le h) false false, getD_randBits]

/-- Rule R182 at one LLR. -/
theorem getD_derandomize {l : List Llr} (h : l.length ≤ 8 * seq.length) {i : Nat} (hi : i < l.length) :
    (derandomize seq l).getD i 0 = (if (seq.getD (i / 8) 0).getLsbD (7 - i % 8) then -1 else 1) * l.getD i 0 := by
  rw [derandomize, getD_zipWith _ hi (by simpa using hi.trans_le h) 0 false, getD_randBits]
  split
  · exact (Int.neg_one_mul _).symm
  · exact (Int.one_mul _).symm

theorem randomize_randomize {x : List Bool} (h : x.length ≤ 8 * seq.length) :
    randomize seq (randomize seq x) = x :=
  zipWith_zipWith_of_involutive (fun a b => by rw [Bool.xor_assoc, Bool.xor_self, Bool.xor_false]) (by simpa using h)

theorem derandomize_derandomize {l : List Llr} (h : l.length ≤ 8 * seq.length) :
    derandomize seq (derandomize seq l) = l :=
  zipWith_zipWith_of_involutive (fun a b => by cases b <;> simp) (by simpa using h)

end

/-- Adding a 1 to a bit negates its full-scale LLR. -/
theorem soft_xor (a b : Bool) : soft (a ^^ b) = if b then -soft a else soft a := by
  cases a <;> cases b <;> rfl

theorem derandomize_map_soft (seq : List Byte) (x : List Bool) :
    derandomize seq (x.map soft) = (randomize seq x).map soft := by
  simp only [derandomize, randomize, List.zipWith_map_left, List.map_zipWith, soft_xor]

/-! ### What the two operations do to the state -/

/-- The frame's 368 elements are as many as the bits of the table (rule R180). -/
theorem randSeq_bits : 8 * m17core.randSeq.length = 368 := rfl

theorem exec_randomize {x : List Bool} (hx : x.length = 368) (s : State) :
    exec (.randomize x) s =
      .next { s with rsp := s.rsp ++ (0x5200000C :: packBits (randomize m17core.randSeq x)) } := by
  have hwords : (packBits (randomize m17core.randSeq x)).length = 12 := by
    rw [packBits_length, length_randomize (hx.trans randSeq_bits.symm).le, hx]
  have hrecord : recordWords 0x52 statusOk (packBits (randomize m17core.randSeq x)) =
      0x5200000C :: packBits (randomize m17core.randSeq x) := by
    simp [recordWords, statusOk, hwords]
  rw [← hrecord]
  rfl

theorem exec_derandomize {l : List Byte} (hl : l.length = 368) (hrange : ∀ b ∈ l, inLlrRange b) (s : State) :
    exec (.derandomize l) s = .next { s with
      rsp := s.rsp ++ (0x5300005C :: packBytes (llrBytes (derandomize m17core.randSeq (l.map fun b => b.toInt)))) } := by
  obtain ⟨ls, hls⟩ : ∃ ls, (l.map fun b => b.toInt) = ls := ⟨_, rfl⟩
  have hlen : ls.length = 368 := by rw [← hls, List.length_map, hl]
  have hwords : (packBytes (llrBytes (derandomize m17core.randSeq ls))).length = 92 := by
    rw [packBytes_length, llrBytes, List.length_map, length_derandomize (hlen.trans randSeq_bits.symm).le, hlen]
  have hrecord : recordWords 0x53 statusOk (packBytes (llrBytes (derandomize m17core.randSeq ls))) =
      0x5300005C :: packBytes (llrBytes (derandomize m17core.randSeq ls)) := by
    simp [recordWords, statusOk, hwords]
  have hexec : exec (.derandomize l) s =
      .next (respond 0x53 statusOk (packBytes (llrBytes (derandomize m17core.randSeq ls))) s) := by
    simp only [exec, execDerandomize, execDerandomizeFor, llrsOf_of_inRange hrange, hls]
  rw [hexec, hls, ← hrecord]
  rfl

/-! ### The statement -/

/-- Settles O39: a frame has as many elements as the table has bits, so the laws above hold on all of it. -/
theorem randomizeOperationsScramble : Obligations.RandomizeOperationsScramble := by
  refine ⟨?bits, ?llrs⟩
  case bits =>
    intro x s hx
    have hle : x.length ≤ 8 * m17core.randSeq.length := (hx.trans randSeq_bits.symm).le
    exact ⟨randomize m17core.randSeq x, exec_randomize hx s, (length_randomize hle).trans hx,
      fun i hi => getD_randomize hle (hi.trans_eq hx.symm), rfl, randomize_randomize hle, derandomize_map_soft _ x⟩
  case llrs =>
    intro l s hl hrange
    have hlen : (l.map fun b => b.toInt).length = 368 := by rw [List.length_map, hl]
    have hle : (l.map fun b => b.toInt).length ≤ 8 * m17core.randSeq.length := (hlen.trans randSeq_bits.symm).le
    have hvalue (i : Nat) : (l.map fun b => b.toInt).getD i 0 = (l.getD i 0).toInt :=
      List.getD_map (d := (0 : Byte)) _ BitVec.toInt
    refine ⟨derandomize m17core.randSeq (l.map fun b => b.toInt), exec_derandomize hl hrange s,
      (length_derandomize hle).trans hlen, fun i hi => ?_, rfl, derandomize_derandomize hle⟩
    rw [getD_derandomize hle (hi.trans_eq hlen.symm), hvalue]

end Sys2Proof.Machine

/-! SUPPORT. The sync-word detectors (spec/45_correlator_sync_dcd.md rules R202 to R204): the peak of a window, the
three cases of a detector step, what SYNC_STEP and SYNC_UPDATED do to the state, and the two statements about them. -/

namespace Sys2Proof.Machine

open Sys2Proof

/-! ### The peak of a window -/

/-- `peak` is what rule R203 keeps of the samples at the indices `l`: the largest magnitude, at its earliest index.  It
is still the start value when no sample of `l` differs from 0. -/
structure IsPeakAmong (samples : Vector RealVal 10) (l : List (Fin 10)) (peak : Fin 10 × RealVal) : Prop where
  largest : ∀ j ∈ l, |samples[j]| ≤ |peak.2|
  earliest : ∀ j ∈ l, j < peak.1 → |samples[j]| < |peak.2|
  source : (peak.1 ∈ l ∧ peak.2 = samples[peak.1]) ∨ peak = (0, 0)

section
variable {samples : Vector RealVal 10} {l : List (Fin 10)} {peak : Fin 10 × RealVal} {i : Fin 10}

/-- A later sample replaces the peak only when it is strictly larger. -/
theorem IsPeakAmong.snoc (h : IsPeakAmong samples l peak) (hi : ∀ j ∈ l, j < i) :
    IsPeakAmong samples (l ++ [i]) (if |peak.2| < |samples[i]| then (i, samples[i]) else peak) := by
  split
  case isTrue hlt =>
    have hsmaller : ∀ j ∈ l, |samples[j]| < |samples[i]| := fun j hj => (h.largest j hj).trans_lt hlt
    refine ⟨?_, ?_, .inl ⟨by simp, rfl⟩⟩
    · simpa [or_imp, forall_and] using fun j hj => (hsmaller j hj).le
    · simpa [or_imp, forall_and] using fun j hj _ => hsmaller j hj
  case isFalse hge =>
    have hnot : ¬ i < peak.1 := by
      rcases h.source with ⟨hmem, -⟩ | hstart
      · exact (hi _ hmem).not_gt
      · simp [hstart]
    refine ⟨?_, ?_, h.source.imp_left fun ⟨hmem, hval⟩ => ⟨List.mem_append_left _ hmem, hval⟩⟩
    · simpa [or_imp, forall_and] using ⟨h.largest, not_lt.1 hge⟩
    · simpa [or_imp, forall_and, hnot] using h.earliest

theorem isPeakAmong_foldl (samples : Vector RealVal 10) (hl : l.Pairwise (· < ·)) :
    IsPeakAmong samples l
      (l.foldl (fun best i => if |best.2| < |samples[i]| then (i, samples[i]) else best) (0, 0)) := by
  induction l using List.reverseRecOn with
  | nil => exact ⟨by simp, by simp, .inr rfl⟩
  | append_singleton l i ih =>
    obtain ⟨hinit, -, hlast⟩ := List.pairwise_append.1 hl
    rw [List.foldl_append]
    exact (ih hinit).snoc fun j hj => hlast j hj i (List.mem_singleton_self i)

/-- The value kept is the sample at the index kept, in a window of zeros too. -/
theorem IsPeakAmong.snd_eq (h : IsPeakAmong samples (List.finRange 10) peak) : peak.2 = samples[peak.1] := by
  rcases h.source with ⟨-, hval⟩ | rfl
  · exact hval
  · have hzero : |samples[(0 : Fin 10)]| ≤ 0 := (h.largest 0 (List.mem_finRange 0)).trans_eq abs_zero
    exact (abs_nonpos_iff.1 hzero).symm

theorem IsPeakAmong.abs_le (h : IsPeakAmong samples (List.finRange 10) peak) (j : Fin 10) :
    |samples[j]| ≤ |samples[peak.1]| :=
  h.snd_eq ▸ h.largest j (List.mem_finRange j)

theorem IsPeakAmong.abs_lt (h : IsPeakAmong samples (List.finRange 10) peak) (j : Fin 10) (hj : j < peak.1) :
    |samples[j]| < |samples[peak.1]| :=
  h.snd_eq ▸ h.earliest j (List.mem_finRange j) hj

end

theorem isPeakAmong_synPeak (samples : Vector RealVal 10) :
    IsPeakAmong samples (List.finRange 10) (synPeak samples) :=
  isPeakAmong_foldl samples (List.pairwise_lt_finRange 10)

/-! ### One step of a detector -/

section
variable {p : Params} {c : Cor} {w : SynSel} {y : Syn}

theorem synStep_of_beyond (h : synTriggered p c w ≠ 0) :
    synStep p c w y = { y with
      samples := (if y.triggered then y.samples else Vector.replicate 10 0).set (corIndex c).val (synTriggered p c w)
        (corIndex c).isLt
      triggered := true } :=
  if_pos h

theorem synStep_of_open (h : synTriggered p c w = 0) (hopen : y.triggered = true) :
    synStep p c w y = { y with
      triggered := false
      timingIndex := (synPeak y.samples).1
      updated := if 0 < (synPeak y.samples).2 then .plus else .minus } :=
  (if_neg (not_not.2 h)).trans (if_pos hopen)

theorem synStep_of_closed (h : synTriggered p c w = 0) (hclosed : y.triggered = false) : synStep p c w y = y :=
  (if_neg (not_not.2 h)).trans (if_neg (Bool.not_eq_true _ ▸ hclosed))

/-- The window after a sample beyond a threshold: the sample at its phase, the old window or zeros elsewhere. -/
theorem synStep_samples_of_beyond (h : synTriggered p c w ≠ 0) (j : Fin 10) :
    (synStep p c w y).samples[j] =
      if j = corIndex c then synTriggered p c w else if y.triggered then y.samples[j] else 0 := by
  have hbase : (if y.triggered then y.samples else Vector.replicate 10 0)[j] =
      if y.triggered then y.samples[j] else (0 : RealVal) := by
    split
    · rfl
    · exact Vector.getElem_replicate _
  rw [synStep_of_beyond h, ← hbase]
  simp [Vector.getElem_set, Fin.ext_iff, eq_comm (a := j.val) (b := (corIndex c).val)]

end

/-! ### Writes of a detector and of the response stream, one after the other -/

@[simp] theorem setSyn_setSyn (w : SynSel) (y z : Syn) (s : State) : (s.setSyn w y).setSyn w z = s.setSyn w z := by
  cases w <;> rfl

@[simp] theorem setSyn_append (w : SynSel) (y : Syn) (ws : List Word32) (s : State) :
    (append ws s).setSyn w y = append ws (s.setSyn w y) := by
  cases w <;> rfl

@[simp] theorem append_append (vs ws : List Word32) (s : State) :
    append ws (append vs s) = append (vs ++ ws) s := by
  simp only [append, List.append_assoc]

theorem append_setSyn (ws : List Word32) (w : SynSel) (y : Syn) (s : State) :
    append ws (s.setSyn w y) = { s.setSyn w y with rsp := s.rsp ++ ws } := by
  rw [append, setSyn_rsp]

/-! ### What the two operations do to the state -/

theorem exec_syncStep (w : SynSel) (s : State) :
    exec (.syncStep w) s =
      .next (append [0x63000001, BitVec.ofNat 32 (synStep m17core s.cor w (s.syn w)).timingIndex.val]
        (s.setSyn w (synStep m17core s.cor w (s.syn w)))) := by
  have hrecord (v : Word32) : recordWords 0x63 statusOk [v] = [0x63000001, v] := by simp [recordWords, statusOk]
  rw [← hrecord]
  rfl

theorem exec_syncUpdated (w : SynSel) (s : State) :
    exec (.syncUpdated w) s =
      .next (append [0x64000001, BitVec.ofInt 32 (s.syn w).updated.toInt] (s.setSyn w (synClear (s.syn w)))) := by
  have hrecord (v : Word32) : recordWords 0x64 statusOk [v] = [0x64000001, v] := by simp [recordWords, statusOk]
  rw [← hrecord]
  rfl

/-- The second read finds the register cleared by the first. -/
theorem execAll_syncUpdated_syncUpdated (w : SynSel) (s : State) :
    execAll [.syncUpdated w, .syncUpdated w] s =
      .next (append [0x64000001, BitVec.ofInt 32 (s.syn w).updated.toInt, 0x64000001, 0]
        (s.setSyn w (synClear (s.syn w)))) := by
  have hzero : BitVec.ofInt 32 SyncSign.zero.toInt = 0 := rfl
  rw [execAll_cons_next (exec_syncUpdated w s), execAll_cons_next (exec_syncUpdated w _)]
  simp [execAll, synClear, hzero]

/-! ### The statements -/

/-- Settles O42: one clause for each case of rule R202; the peak is that of `isPeakAmong_synPeak`. -/
theorem syncStepFindsPeak : Obligations.SyncStepFindsPeak := by
  refine ⟨fun w s => ⟨synStep m17core s.cor w (s.syn w), exec_syncStep w s, ?collects, ?closes, ?keeps⟩,
    decode_of_reject rfl []⟩
  case collects =>
    intro hv
    refine ⟨?_, ?_, ?_, synStep_samples_of_beyond hv⟩ <;> rw [synStep_of_beyond hv]
  case closes =>
    intro hv hopen
    have hpeak := isPeakAmong_synPeak (s.syn w).samples
    rw [synStep_of_open hv hopen]
    generalize synPeak (s.syn w).samples = peak at hpeak ⊢
    exact ⟨rfl, rfl, hpeak.abs_le, hpeak.abs_lt, by rw [hpeak.snd_eq]⟩
  case keeps => exact synStep_of_closed

/-- Settles O43: `exec_syncUpdated` is one read, `execAll_syncUpdated_syncUpdated` two; each of the three signs. -/
theorem syncUpdatedReadsAndClears : Obligations.SyncUpdatedReadsAndClears := by
  refine ⟨fun w s => ?_, decode_of_reject rfl []⟩
  have hread := exec_syncUpdated w s
  have htwice := execAll_syncUpdated_syncUpdated w s
  rw [append_setSyn] at hread htwice
  cases hsign : (s.syn w).updated <;> rw [hsign] at hread htwice <;> exact ⟨hread, htwice⟩

end Sys2Proof.Machine

/-! SUPPORT. Clock recovery (spec/46_clock_recovery_estimators.md rules R216 to R221): one sample's slope, the scan for the
falling edge, the estimate, what CLK_SAMPLE and CLK_UPDATE do to the state, and the two statements about them. -/

namespace Sys2Proof.Machine

open Sys2Proof

/-! ### Sample phases -/

theorem phase_val_add_one (i : Fin 10) : phase (i.val + 1) = i + 1 :=
  Fin.ext (Fin.val_add i 1).symm

/-- The position before `i`, as rule R218 writes it. -/
theorem phase_val_add_nine_add_one (i : Fin 10) : phase (i.val + 9) + 1 = i := by
  revert i
  decide

/-! ### One sample -/

theorem clkSlope_eq (prev x : RealVal) : clkSlope prev x = if x + prev < 0 then prev - x else x - prev := by
  rw [clkSlope, neg_sub]

theorem clkSample_est_getElem (x : RealVal) (c : Clk) (j : Fin 10) :
    (clkSample x c).est[j] = c.est[j] + (if j = c.idx then clkSlope c.prevSample x else 0) := by
  by_cases h : j = c.idx
  · subst h
    simp [clkSample]
  · have hval : c.idx.val ≠ j.val := fun hv => h (Fin.ext hv.symm)
    simp [clkSample, h, hval]

/-- Rule R216: all of the unit after a sample. -/
theorem clkSample_eq (x : RealVal) (c : Clk) :
    clkSample x c = { c with
      est := c.est.set c.idx.val (c.est[c.idx] + clkSlope c.prevSample x) c.idx.isLt, prevSample := x, idx := c.idx + 1
      sampleCount := c.sampleCount + (if c.seeded then 1 else 0) } := by
  have hcount : (if c.seeded then c.sampleCount + 1 else c.sampleCount) = c.sampleCount + (if c.seeded then 1 else 0) := by
    cases c.seeded <;> rfl
  rw [← hcount, ← phase_val_add_one]
  rfl

/-! ### The falling edge -/

section
variable {est : Vector RealVal 10} {l : List (Fin 10)} {i j : Fin 10}

/-- Bin `j` is negative and a bin of `l` before it is positive. -/
def fallsAt (est : Vector RealVal 10) (l : List (Fin 10)) (j : Fin 10) : Bool :=
  decide (est[j] < 0) && l.any fun i => decide (i < j ∧ 0 < est[i])

theorem fallsAt_iff : fallsAt est l j = true ↔ est[j] < 0 ∧ ∃ i ∈ l, i < j ∧ 0 < est[i] := by
  simp [fallsAt]

/-- No fall is at the first bin of a scan. -/
theorem fallsAt_cons_self (h : ∀ j ∈ l, i < j) : ¬ fallsAt est (i :: l) i = true := by
  rw [fallsAt_iff]
  rintro ⟨-, k, hk, hlt, -⟩
  rcases List.mem_cons.1 hk with rfl | hmem
  · exact lt_irrefl k hlt
  · exact lt_asymm hlt (h k hmem)

theorem fallsAt_cons_of_lt (h : i < j) :
    fallsAt est (i :: l) j = if 0 < est[i] then decide (est[j] < 0) else fallsAt est l j := by
  by_cases hpos : 0 < est[i] <;> simp [fallsAt, h, hpos, -Fin.getElem_fin]

/-- After a positive bin the scan stops at the first negative one. -/
theorem fallingEdgeScan_true (est : Vector RealVal 10) (l : List (Fin 10)) :
    fallingEdgeScan est l true = (l.find? fun j => decide (est[j] < 0)).getD 0 := by
  induction l with
  | nil => rfl
  | cons i l ih => by_cases hneg : est[i] < 0 <;> simp [fallingEdgeScan, hneg, ih, -Fin.getElem_fin]

/-- The scan over ascending bins stops at the first fall. -/
theorem fallingEdgeScan_false (hl : l.Pairwise (· < ·)) :
    fallingEdgeScan est l false = (l.find? (fallsAt est l)).getD 0 := by
  induction l with
  | nil => rfl
  | cons i l ih =>
    obtain ⟨hhead, htail⟩ := List.pairwise_cons.1 hl
    rw [List.find?_cons_of_neg (fallsAt_cons_self hhead),
      List.find?_congr fun j hj => fallsAt_cons_of_lt (hhead j hj)]
    by_cases hpos : 0 < est[i]
    · simp [fallingEdgeScan, hpos, fallingEdgeScan_true, -Fin.getElem_fin]
    · simpa [fallingEdgeScan, hpos, -Fin.getElem_fin] using ih htail

/-- Rule R218: the chosen bin is one before the first fall, or before bin 0 when there is none. -/
theorem clkFallingEdge_add_one (est : Vector RealVal 10) :
    clkFallingEdge est + 1 = (Fin.find? (fallsAt est (List.finRange 10))).getD 0 := by
  rw [clkFallingEdge, phase_val_add_nine_add_one, fallingEdgeScan_false (List.pairwise_lt_finRange 10),
    Fin.find?_eq_find?_finRange]

theorem clkFallingEdge_of_first (hneg : est[j] < 0) (hpos : ∃ i, i < j ∧ 0 < est[i])
    (hfirst : ∀ j', j' < j → est[j'] < 0 → ∀ i, i < j' → ¬ 0 < est[i]) : clkFallingEdge est + 1 = j := by
  have hfind : Fin.find? (fallsAt est (List.finRange 10)) = some j := by
    refine Fin.find?_eq_some_iff.2 ⟨?falls, fun j' hj' => ?first⟩
    case falls => simpa [fallsAt_iff] using ⟨hneg, hpos⟩
    case first =>
      rw [← Bool.not_eq_true, fallsAt_iff]
      rintro ⟨hneg', i, -, hlt, hi⟩
      exact hfirst j' hj' hneg' i hlt hi
  rw [clkFallingEdge_add_one, hfind]
  rfl

theorem clkFallingEdge_of_none (hnone : ∀ i j : Fin 10, i < j → 0 < est[i] → ¬ est[j] < 0) :
    clkFallingEdge est = 9 := by
  have hfind : Fin.find? (fallsAt est (List.finRange 10)) = none := by
    refine Fin.find?_eq_none_iff.2 fun j => ?_
    rw [← Bool.not_eq_true, fallsAt_iff]
    rintro ⟨hneg, i, -, hlt, hi⟩
    exact hnone i j hlt hi hneg
  have hzero : clkFallingEdge est + 1 = 9 + 1 := by
    rw [clkFallingEdge_add_one, hfind]
    rfl
  exact add_right_cancel hzero

end

/-! ### The update -/

/-- Rule R220: the two bounds do not cross, so either may be applied first. -/
theorem clkEstimate_eq (total : RealVal) (n : Nat) :
    clkEstimate total n = max (1 - 1 / 2000) (min (1 + 1 / 2000) (1 + total / n)) := by
  have hbounds : min (1 + 1 / 2000) (1 - 1 / 2000) = (1 - 1 / 2000 : RealVal) := min_eq_right (by norm_num)
  calc clkEstimate total n
    _ = min (1 + 1 / 2000) (max (1 - 1 / 2000) (1 + total / n)) := rfl
    _ = max (1 - 1 / 2000) (min (1 + 1 / 2000) (1 + total / n)) := by rw [min_max_distrib_left, hbounds]

section
variable {c : Clk}

/-- Rule R221. -/
theorem clkUpdate_of_not_seeded (h : c.seeded = false) :
    clkUpdate c = { c with
      sampleIndex := clkFallingEdge c.est, prevSampleIndex := clkFallingEdge c.est, est := Vector.replicate 10 0
      seeded := true, offsetTotal := 0, sampleCount := 0 } := by
  simp [clkUpdate, h]

/-- Rule R217 for a seeded clock. -/
theorem clkUpdate_of_seeded (h : c.seeded = true) :
    clkUpdate c = { c with
      sampleIndex := clkFallingEdge c.est, prevSampleIndex := clkFallingEdge c.est, est := Vector.replicate 10 0
      offsetTotal := c.offsetTotal + clkDrift (clkFallingEdge c.est) c.prevSampleIndex
      clock :=
        if 0 < c.sampleCount then
          clkEstimate (c.offsetTotal + clkDrift (clkFallingEdge c.est) c.prevSampleIndex) c.sampleCount
        else c.clock } :=
  if_pos h

end

/-! ### What the two operations do to the state -/

theorem exec_clkSample (x : Word32) (s : State) :
    exec (.clkSample x) s = withSample x 0x70000000 s fun r =>
      { s with clk := clkSample r s.clk, rsp := s.rsp ++ [0x70000000] } := rfl

theorem exec_clkSample_of_some {x : Word32} {r : RealVal} (hr : realOfF32 x = some r) (s : State) :
    exec (.clkSample x) s = .next { s with clk := clkSample r s.clk, rsp := s.rsp ++ [0x70000000] } := by
  rw [exec_clkSample, withSample, hr]

/-- Rule R326. -/
theorem exec_clkSample_of_notFinite {x : Word32} (hx : notFinite x) (s : State) :
    exec (.clkSample x) s = .next { s with
      core := { faultCode := 0x82, faultCmd := 0x70000000 }, rsp := s.rsp ++ [0xFF820001, 0x70000000] } := by
  rw [exec_clkSample, withSample, (realOfF32_eq_none_iff x).2 hx]
  rfl

theorem exec_clkUpdate (s : State) :
    exec .clkUpdate s = .next { s with
      clk := clkUpdate s.clk
      rsp := s.rsp ++
        [0x71000002, BitVec.ofNat 32 (clkUpdate s.clk).sampleIndex.val, f32OfReal (clkUpdate s.clk).clock] } := by
  have hrecord (v w : Word32) : recordWords 0x71 statusOk [v, w] = [0x71000002, v, w] := by simp [recordWords, statusOk]
  rw [← hrecord]
  rfl

/-! ### The statements -/

/-- Settles O45: the unit is `clkSample_eq`, its bins `clkSample_est_getElem`. -/
theorem clkSampleAddsSlope : Obligations.ClkSampleAddsSlope := by
  refine ⟨fun x r s hr => ⟨(clkSample r s.clk).est, ?_, fun j => ?_⟩, fun x s hx => exec_clkSample_of_notFinite hx s⟩
  · rw [exec_clkSample_of_some hr, clkSample_eq]
  · rw [clkSample_est_getElem, clkSlope_eq]

/-- Settles O46: the edge is that of `clkFallingEdge_of_first` and `clkFallingEdge_of_none`; then a clock not seeded yet and
a seeded one. -/
theorem clkUpdateChoosesFallingEdge : Obligations.ClkUpdateChoosesFallingEdge := by
  intro s
  refine ⟨clkUpdate s.clk, clkDrift (clkFallingEdge s.clk.est) s.clk.prevSampleIndex, exec_clkUpdate s, ?_⟩
  have hzero : ∀ j : Fin 10, (Vector.replicate 10 (0 : RealVal))[j] = 0 := fun j => Vector.getElem_replicate _
  cases hseeded : s.clk.seeded
  case false =>
    rw [clkUpdate_of_not_seeded hseeded]
    exact ⟨fun j => clkFallingEdge_of_first, clkFallingEdge_of_none, rfl, hzero, rfl, rfl, rfl, rfl,
      fun _ => ⟨rfl, rfl, rfl⟩, nofun⟩
  case true =>
    rw [clkUpdate_of_seeded hseeded]
    refine ⟨fun j => clkFallingEdge_of_first, clkFallingEdge_of_none, rfl, hzero, rfl, rfl, hseeded, rfl, nofun,
      fun _ => ⟨rfl, rfl, fun hnone => ?_, fun hsome => ?_⟩⟩
    · exact if_neg hnone.not_gt
    · exact (if_pos hsome).trans (clkEstimate_eq _ _)

end Sys2Proof.Machine

/-! SUPPORT. The framer (spec/47_framer_framedecoder.md rule R236): the two places a push writes, the command word of a
push, what FRM_PUSH does to the state, the pushes up to the end of a frame, and the statement about them. -/

namespace Sys2Proof.Machine

open Sys2Proof

/-! ### The two places a push writes -/

theorem frmStore_getElem (a b : Llr) (f : Frm) (k : Fin 368) :
    (frmStore a b f)[k] = if k.val = f.count then a else if k.val = f.count + 1 then b else f.buf[k] := by
  by_cases hk : k.val = f.count
  · simp [frmStore, hk]
  · simp [frmStore, Vector.getElem_setIfInBounds, hk, eq_comm (b := k.val)]

/-- The LLRs held after a push are those held before it and then the two pushed. -/
theorem take_toList_frmStore (a b : Llr) {f : Frm} (h : f.count + 1 < 368) :
    (frmStore a b f).toList.take (f.count + 2) = f.buf.toList.take f.count ++ [a, b] := by
  have hlist : (frmStore a b f).toList = (f.buf.toList.set f.count a).set (f.count + 1) b := by
    simp [frmStore]
  have hlen : f.buf.toList.length = 368 := Vector.length_toList
  rw [hlist, List.take_add_one, List.take_add_one, List.take_set_of_le (by omega), List.take_set_of_le (by omega)]
  simp [hlen, h, Nat.lt_of_succ_lt h]

/-! ### The unfinished frame -/

/-- The LLRs pushed since the last hand-over, as response bytes. -/
def Frm.held (f : Frm) : List Byte :=
  llrBytes (f.buf.toList.take f.count)

theorem Frm.held_of_count_eq_zero {f : Frm} (h : f.count = 0) : f.held = [] := by
  simp [Frm.held, h, llrBytes]

section
variable {f : Frm} (a b : Byte)

theorem Frm.held_frmStore (h : f.count + 1 < 368) :
    ({ buf := frmStore a.toInt b.toInt f, count := f.count + 2 } : Frm).held = f.held ++ [a, b] := by
  simp [Frm.held, take_toList_frmStore _ _ h, llrBytes]

/-- The frame that the last push completes. -/
theorem llrBytes_toList_frmStore (h : f.count + 2 = 368) :
    llrBytes (frmStore a.toInt b.toInt f).toList = f.held ++ [a, b] := by
  have hall : (frmStore a.toInt b.toInt f).toList.take (f.count + 2) = (frmStore a.toInt b.toInt f).toList :=
    List.take_of_length_le (by rw [Vector.length_toList, h])
  rw [← Frm.held_frmStore a b (by omega), Frm.held, hall]

end

/-! ### The command word -/

theorem toNat_append_byte {n : Nat} (x : BitVec n) (b : Byte) : (x ++ b).toNat = x.toNat * 2 ^ 8 + b.toNat := by
  rw [BitVec.toNat_append, ← Nat.shiftLeft_add_eq_or_of_lt b.isLt, Nat.shiftLeft_eq]

/-- Rule R90: the two LLRs are bits 15 to 8 and 7 to 0 of the command word. -/
theorem commandWord_frmPush (a b : Byte) : commandWord (.frmPush a b) = 0x80000000 ||| (0#16 ++ a ++ b) := by
  have harg : (BitVec.ofNat 24 (a.toNat * 2 ^ 8 + b.toNat)).toNat = (0#16 ++ a ++ b).toNat := by
    rw [BitVec.toNat_ofNat, toNat_append_byte, toNat_append_byte, BitVec.toNat_ofNat]
    omega
  apply BitVec.eq_of_toNat_eq
  rw [commandWord, command, BitVec.toNat_append, harg, BitVec.toNat_or]
  rfl

/-! ### What FRM_PUSH does to the state -/

theorem exec_frmPush_of_bad {a b : Byte} (h : ¬ (inLlrRange a ∧ inLlrRange b)) (s : State) :
    exec (.frmPush a b) s = .next { s with
      core := { faultCode := 0x82, faultCmd := 0x80000000 ||| (0#16 ++ a ++ b) }
      rsp := s.rsp ++ [0xFF820001, 0x80000000 ||| (0#16 ++ a ++ b)] } := by
  have hbad : ¬ (llrOk a && llrOk b) = true := by rwa [Bool.and_eq_true, llrOk_iff, llrOk_iff]
  have hexec : exec (.frmPush a b) s = .next (takeFault .badOperand (commandWord (.frmPush a b)) s) := if_neg hbad
  have hrecord (w : Word32) : recordWords 0xFF 0x82 [w] = [0xFF820001, w] := by simp [recordWords]
  rw [hexec, commandWord_frmPush, ← hrecord]
  rfl

theorem exec_frmPush_of_inRange {a b : Byte} (ha : inLlrRange a) (hb : inLlrRange b) (s : State) :
    exec (.frmPush a b) s =
      .next (frmResponse (frmPush a.toInt b.toInt s.frm).2 { s with frm := (frmPush a.toInt b.toInt s.frm).1 }) := by
  have hok : (llrOk a && llrOk b) = true := by rw [Bool.and_eq_true, llrOk_iff, llrOk_iff]; exact ⟨ha, hb⟩
  exact if_pos hok

section
variable {a b : Byte} {s : State}

/-- A push that leaves room for another. -/
theorem exec_frmPush_of_ne (ha : inLlrRange a) (hb : inLlrRange b) (h : s.frm.count + 2 ≠ 368) :
    exec (.frmPush a b) s = .next { s with
      frm := { buf := frmStore a.toInt b.toInt s.frm, count := s.frm.count + 2 }, rsp := s.rsp ++ [0x80000000] } := by
  rcases frmPush_cases a.toInt b.toInt s.frm with ⟨hlast, -⟩ | ⟨-, hpush⟩
  · exact absurd hlast h
  · rw [exec_frmPush_of_inRange ha hb, hpush]
    rfl

/-- The push that completes the frame. -/
theorem exec_frmPush_of_eq (ha : inLlrRange a) (hb : inLlrRange b) (h : s.frm.count + 2 = 368) :
    exec (.frmPush a b) s = .next { s with
      frm := { buf := frmStore a.toInt b.toInt s.frm, count := 0 }
      rsp := s.rsp ++ (0x8011005C :: packBytes (llrBytes (frmStore a.toInt b.toInt s.frm).toList)) } := by
  rcases frmPush_cases a.toInt b.toInt s.frm with ⟨-, hpush⟩ | ⟨hmore, -⟩
  · have hwords : (packBytes (llrBytes (frmStore a.toInt b.toInt s.frm).toList)).length = 92 := by
      rw [packBytes_length, llrBytes, List.length_map, Vector.length_toList]
    have hrecord : recordWords 0x80 statusFrameReady (packBytes (llrBytes (frmStore a.toInt b.toInt s.frm).toList)) =
        0x8011005C :: packBytes (llrBytes (frmStore a.toInt b.toInt s.frm).toList) := by
      simp [recordWords, statusFrameReady, hwords]
    rw [exec_frmPush_of_inRange ha hb, hpush, ← hrecord]
    rfl
  · exact absurd h hmore

end

/-! ### The pushes up to the end of a frame -/

/-- The pushes that fill what is free of the frame: all but the last answer without a frame, the last with the LLRs the
framer held at the start and then those pushed. -/
theorem execAll_frmPush_of_fills {p : Byte × Byte} {ps : List (Byte × Byte)} {s : State}
    (hrange : ∀ q ∈ p :: ps, inLlrRange q.1 ∧ inLlrRange q.2) (hfills : s.frm.count + 2 * (ps.length + 1) = 368) :
    ∃ buf : Vector Llr 368,
      execAll ((p :: ps).map fun q => .frmPush q.1 q.2) s = .next { s with
        frm := { buf := buf, count := 0 }
        rsp := s.rsp ++ (List.replicate ps.length 0x80000000 ++
          0x8011005C :: packBytes (s.frm.held ++ (p :: ps).flatMap fun q => [q.1, q.2])) } := by
  induction ps generalizing p s with
  | nil =>
    obtain ⟨ha, hb⟩ := hrange p List.mem_cons_self
    have hpush := exec_frmPush_of_eq ha hb hfills
    rw [llrBytes_toList_frmStore _ _ hfills] at hpush
    exact ⟨_, execAll_cons_next hpush []⟩
  | cons q qs ih =>
    rw [List.length_cons] at hfills
    obtain ⟨⟨ha, hb⟩, hrest⟩ := List.forall_mem_cons.1 hrange
    have hpush := exec_frmPush_of_ne (s := s) ha hb (by omega)
    have hheld := Frm.held_frmStore (f := s.frm) p.1 p.2 (by omega)
    have hroom : s.frm.count + 2 + 2 * (qs.length + 1) = 368 := by omega
    obtain ⟨buf, hrun⟩ := ih hrest hroom (s := { s with
      frm := { buf := frmStore p.1.toInt p.2.toInt s.frm, count := s.frm.count + 2 }
      rsp := s.rsp ++ [0x80000000] })
    refine ⟨buf, ?_⟩
    rw [List.map_cons, execAll_cons_next hpush, hrun, hheld]
    simp [List.replicate_succ]

/-! ### The statement -/

/-- Settles O48: `exec_frmPush_of_bad`, the two pushes in range, and `execAll_frmPush_of_fills` from an empty framer. -/
theorem framerReturnsFrameOnLastPush : Obligations.FramerReturnsFrameOnLastPush := by
  refine ⟨fun a b s h => exec_frmPush_of_bad h s, ?push, ?frame⟩
  case push =>
    intro a b s ha hb _
    refine ⟨frmStore a.toInt b.toInt s.frm, frmStore_getElem _ _ _, ?_⟩
    by_cases hlast : s.frm.count + 2 = 368
    · rw [if_pos hlast, exec_frmPush_of_eq ha hb hlast]
    · rw [if_neg hlast, exec_frmPush_of_ne ha hb hlast]
  case frame =>
    intro pairs s hlen hrange hempty
    obtain ⟨p, ps, rfl⟩ := List.exists_cons_of_length_eq_add_one hlen
    have hps : ps.length = 183 := by simpa using hlen
    have hfills := execAll_frmPush_of_fills hrange (by rw [hempty, hps])
    rwa [hps, Frm.held_of_count_eq_zero hempty] at hfills

end Sys2Proof.Machine

/-! SUPPORT. The demodulator's handlers of LSF_SYNC and FRAME (spec/48_demodulator.md rules R283, R284 and R292 to R297):
a hit and a miss, the strikes of a frame and the state after it, what a completed frame does, one sample in each of the
two states, and the two statements about them. -/

namespace Sys2Proof.Machine

open Sys2Proof

/-! ### The handler of the state -/

theorem demHandler_of_lsfSync {s : State} (h : s.dem.state = .lsfSync) (y : RealVal) (acc : Bool) :
    demHandler m17core y acc s = handleLsfSync m17core s := by
  rw [demHandler, h]

theorem demHandler_of_frame {s : State} (h : s.dem.state = .frame) (y : RealVal) (acc : Bool) :
    demHandler m17core y acc s = handleFrame m17core y acc s := by
  rw [demHandler, h]

/-! ### A hit and a miss in LSF_SYNC -/

/-- Rule R283: a hit takes the frame; the deviation unit stays as it is (log entry 6). -/
theorem hit_eq (tag : SyncType) (s : State) :
    hit m17core tag s = { s with dem := { s.dem with
      state := .frame, syncWordType := tag, missingSyncCount := 0, needClockUpdate := true
      syncSampleIndex := s.dem.sampleIndex } } := by
  simp [hit, recordSync_eq]

theorem miss_of_lt {s : State} (h : s.dem.missingSyncCount + 1 < 192) :
    miss s = { s with dem := { s.dem with missingSyncCount := s.dem.missingSyncCount + 1 } } :=
  if_neg h.not_ge

/-- Rule R284: the 192nd consecutive miss. -/
theorem miss_of_le {s : State} (h : 192 ≤ s.dem.missingSyncCount + 1) :
    miss s = resetFd { s with dem := { s.dem with state := .unlocked, missingSyncCount := 0 } } :=
  if_pos h

/-! ### One sample in LSF_SYNC -/

section
variable {p : Params} {s : State}

/-- The detector `w` sees a strong correlation in the ring (rules R200, R201). -/
def strongNow (p : Params) (s : State) (w : SynSel) : Bool :=
  synStrong p s.cor w (synTriggered p s.cor w)

theorem handleLsfSync_of_holds (h : corIndex s.cor ≠ s.dem.sampleIndex ∨ strongNow p s .preamble = true) :
    handleLsfSync p s = s := by
  by_cases hphase : corIndex s.cor ≠ s.dem.sampleIndex
  · exact if_pos hphase
  · exact (if_neg hphase).trans (if_pos (h.resolve_left hphase))

/-- Rule R283 at the chosen phase without a strong preamble. -/
theorem handleLsfSync_of_tests (h : ¬ (corIndex s.cor ≠ s.dem.sampleIndex ∨ strongNow p s .preamble = true)) :
    handleLsfSync p s =
      if strongNow p s .lsf = true then hit p (if 0 < synTriggered p s.cor .lsf then .lsf else .stream) s
      else if strongNow p s .packet = true then hit p (if 0 < synTriggered p s.cor .packet then .packet else .bert) s
      else miss s := by
  obtain ⟨hphase, hpreamble⟩ := not_or.1 h
  exact (if_neg hphase).trans (if_neg hpreamble)

end

/-! ### The completed frame -/

/-- Rule R294: up to 90 the strikes are cleared, above it one to three are added. -/
theorem strike_eq (cost count : Nat) :
    strike cost count =
      if cost ≤ 90 then 0 else count + (if cost ≤ 100 then 1 else if cost ≤ 110 then 2 else 3) := by
  change (if 90 < cost then count + 1 else 0) + (if 100 < cost then 1 else 0) + (if 110 < cost then 1 else 0) = _
  split_ifs <;> omega

/-- Rule R295: only EOS overrides the decoder's state. -/
theorem nextState_eq (res : FdResult) (fd : FdState) :
    nextState res fd =
      if res = .eos then .lsfSync
      else match fd with
        | .lsf => .streamSync
        | .stream => .streamSync
        | .bert => .bertSync
        | .basicPacket => .packetSync
        | .fullPacket => .packetSync := by
  cases fd <;> rfl

/-- The frame handed over is the LLRs held and the two of the last symbol. -/
theorem toList_frmStore_of_last (a b : Llr) {f : Frm} (h : f.count = 366) :
    (frmStore a b f).toList = f.buf.toList.take 366 ++ [a, b] := by
  have htake := take_toList_frmStore a b (f := f) (by omega)
  rwa [h, List.take_of_length_le (by rw [Vector.length_toList])] at htake

section
variable {p : Params} {frame : List Llr} {acc : Bool} {s : State} {o : FdOut} {strikes : Nat} {next : DemodState}

/-- Rule R297: more than 75 strikes force UNLOCKED whatever the result. -/
theorem frameDone_of_lt (ho : fdDecode p s.dem.syncWordType acc frame s.fd s.vit = o)
    (hstrikes : strike o.cost s.dem.costCount = strikes) (h : 75 < strikes) :
    frameDone p frame acc s = { s with
      fd := fdReset o.fd, vit := o.vit, rsp := s.rsp ++ o.event
      dem := { s.dem with
        needClockUpdate := true, viterbiCost := o.cost, syncCount := 0, costCount := 0, missingSyncCount := 0
        state := .unlocked } } := by
  subst ho hstrikes
  exact if_pos h

/-- Rule R297: within the limit the result and the decoder's state decide. -/
theorem frameDone_of_not_lt (ho : fdDecode p s.dem.syncWordType acc frame s.fd s.vit = o)
    (hstrikes : strike o.cost s.dem.costCount = strikes) (hnext : nextState o.result o.fd.state = next)
    (h : ¬ 75 < strikes) :
    frameDone p frame acc s = { s with
      fd := o.fd, vit := o.vit, rsp := s.rsp ++ o.event
      dem := { s.dem with
        needClockUpdate := true, viterbiCost := o.cost, syncCount := 0, costCount := strikes, state := next } } := by
  subst ho hstrikes hnext
  exact if_neg h

end

/-! ### One sample in FRAME -/

section
variable {p : Params} {y : RealVal} {acc : Bool} {s : State} {a b : Llr}

theorem handleFrame_of_otherPhase (h : corIndex s.cor ≠ s.dem.sampleIndex) : handleFrame p y acc s = s :=
  if_pos h

/-- Rule R292: a symbol that leaves room for another. -/
theorem handleFrame_of_ne (hphase : corIndex s.cor = s.dem.sampleIndex) (hab : p.llrMap (softSymbol s y) = (a, b))
    (hmore : s.frm.count + 2 ≠ 368) :
    handleFrame p y acc s = { s with frm := { buf := frmStore a b s.frm, count := s.frm.count + 2 } } := by
  rcases frmPush_cases a b s.frm with ⟨hlast, -⟩ | ⟨-, hpush⟩
  · exact absurd hlast hmore
  · simp [handleFrame, hphase, hab, hpush]

/-- Rule R292: the symbol that completes the frame. -/
theorem handleFrame_of_eq (hphase : corIndex s.cor = s.dem.sampleIndex) (hab : p.llrMap (softSymbol s y) = (a, b))
    (hlast : s.frm.count + 2 = 368) :
    handleFrame p y acc s =
      frameDone p (frmStore a b s.frm).toList acc { s with frm := { buf := frmStore a b s.frm, count := 0 } } := by
  rcases frmPush_cases a b s.frm with ⟨-, hpush⟩ | ⟨hmore, -⟩
  · simp [handleFrame, hphase, hab, hpush]
  · exact absurd hlast hmore

end

/-! ### The statements -/

/-- Settles O56: the sample is held, or the two detectors are tried in turn; the last test is the miss limit. -/
theorem lsfSyncTestsInOrder : Obligations.LsfSyncTestsInOrder := by
  intro y accept s hstate t value strong taken
  have ht : t = handleLsfSync m17core s := demHandler_of_lsfSync hstate y accept
  have htaken (tag : SyncType) (hhit : t = hit m17core tag s) : taken tag := by
    simp only [taken, hhit, hit_eq, and_self]
  by_cases hholds : corIndex s.cor ≠ s.dem.sampleIndex ∨ strong .preamble = true
  · rw [if_pos hholds]
    exact ht.trans (handleLsfSync_of_holds hholds)
  rw [if_neg hholds]
  replace ht := ht.trans (handleLsfSync_of_tests hholds)
  by_cases hlsf : strong .lsf = true
  · rw [if_pos hlsf]
    exact htaken _ (ht.trans (if_pos hlsf))
  rw [if_neg hlsf]
  replace ht := ht.trans (if_neg hlsf)
  by_cases hpacket : strong .packet = true
  · rw [if_pos hpacket]
    exact htaken _ (ht.trans (if_pos hpacket))
  rw [if_neg hpacket]
  replace ht := ht.trans (if_neg hpacket)
  by_cases hmiss : s.dem.missingSyncCount + 1 < 192
  · rw [if_pos hmiss]
    exact ht.trans (miss_of_lt hmiss)
  · rw [if_neg hmiss, ht, miss_of_le (not_lt.1 hmiss)]
    exact ⟨rfl, rfl⟩

/-- Settles O58: another phase, a symbol of an unfinished frame, and the last symbol, whose frame strikes out or goes on. -/
theorem completedFrameStrikesOrGoesOn : Obligations.CompletedFrameStrikesOrGoesOn := by
  intro y accept s hstate t level a b
  have ht : t = handleFrame m17core y accept s := demHandler_of_frame hstate y accept
  have hab : m17core.llrMap (softSymbol s y) = (a, b) := rfl
  refine ⟨fun hphase => ht.trans (handleFrame_of_otherPhase hphase), fun hphase hcount => ?unfinished,
    fun hphase hcount => ?completed⟩
  case unfinished =>
    exact ⟨frmStore a b s.frm, frmStore_getElem a b s.frm, ht.trans (handleFrame_of_ne hphase hab (by omega))⟩
  case completed =>
    intro frame o strikes
    have hframe : (frmStore a b s.frm).toList = frame := toList_frmStore_of_last a b hcount
    have hstrikes : strike o.cost s.dem.costCount = strikes := strike_eq o.cost s.dem.costCount
    rw [handleFrame_of_eq hphase hab (by omega), hframe] at ht
    by_cases hlimit : 75 < strikes
    · replace ht := ht.trans (frameDone_of_lt (o := o) rfl hstrikes hlimit)
      rw [if_pos hlimit, ht]
      exact ⟨rfl, rfl, hframe, rfl, rfl⟩
    · replace ht := ht.trans (frameDone_of_not_lt (o := o) rfl hstrikes (nextState_eq _ _) hlimit)
      rw [if_neg hlimit, ht]
      exact ⟨rfl, rfl, hframe, rfl, rfl⟩

end Sys2Proof.Machine

/-! SUPPORT. The system operations and the operand faults (spec/60_exceptions.md): what NOP, SET_CFG and STATUS do to the
state, how a field reads back from a word put together from fields, what an operand out of range does whichever operation
has it, the value of a finite binary32 word, and the three statements about them. -/

namespace Sys2Proof.Machine

open Sys2Proof

/-! ### NOP and SET_CFG -/

theorem exec_nop (s : State) : exec .nop s = .next { s with rsp := s.rsp ++ [0x00000000] } := rfl

theorem exec_setCfg (s : State) (p d : Bool) :
    exec (.setCfg p d) s =
      .next { s with cfg := { polarityNeg := p, diagEnable := d }, rsp := s.rsp ++ [0x03000000] } := rfl

theorem decode_nop (arg : BitVec 24) :
    decode [0x00#8 ++ arg] = if arg = 0 then .instr .nop 1 else .reject .badArg (0x00#8 ++ arg) :=
  decode_of_plain (by simp only [decodeCommand, opOf_append, argOf_append]; rfl) []

theorem decode_setCfg (arg : BitVec 24) :
    decode [0x03#8 ++ arg] =
      if arg.extractLsb' 2 22 = 0 then .instr (.setCfg (arg.getLsbD 1) (arg.getLsbD 0)) 1
      else .reject .badArg (0x03#8 ++ arg) := by
  have h : decodeCommand (0x03#8 ++ arg) =
      reserved (BitVec.allOnes 22 ++ 0#2) arg (.accept 0 fun _ => .setCfg (arg.getLsbD 1) (arg.getLsbD 0)) := by
    simp [decodeCommand]
  simp only [decode_of_reserved h, and_allOnes_append_eq_zero_iff (n := 22) (m := 2)]

/-! ### Words put together from fields -/

@[simp] theorem wordOfFields_nil : wordOfFields [] = 0#32 := rfl

@[simp] theorem wordOfFields_cons (f : Word32) (fs : List Word32) : wordOfFields (f :: fs) = f ||| wordOfFields fs := by
  have hzero : (0 : Word32) ||| f = f ||| 0 := BitVec.or_comm _ _
  rw [wordOfFields, List.foldl_cons, hzero]
  exact List.foldl_assoc

theorem getLsbD_field (lo width v i : Nat) :
    (field lo width v).getLsbD i =
      (decide (i < 32) && (decide (lo ≤ i) && (decide (i - lo < width) && v.testBit (i - lo)))) := by
  rw [field, BitVec.getLsbD_ofNat, Nat.testBit_mul_two_pow, Nat.testBit_mod_two_pow]

theorem getLsbD_field_of_disjoint {lo width i : Nat} (h : i < lo ∨ lo + width ≤ i) (v : Nat) :
    (field lo width v).getLsbD i = false := by
  rw [getLsbD_field]
  rcases h with hbelow | habove
  · rw [decide_eq_false (not_le.2 hbelow), Bool.false_and, Bool.and_false]
  · rw [decide_eq_false (show ¬ i - lo < width by omega), Bool.false_and, Bool.and_false, Bool.and_false]

@[simp] theorem getElem_field_of_disjoint {lo width i : Nat} (h : i < lo ∨ lo + width ≤ i) (v : Nat) (hi : i < 32) :
    (field lo width v)[i] = false :=
  getLsbD_field_of_disjoint h v

@[simp] theorem getElem_field_flag {i : Nat} (b : Bool) (hi : i < 32) : (field i 1 b.toNat)[i] = b := by
  rw [← BitVec.getLsbD_eq_getElem, getLsbD_field, Nat.sub_self, Nat.testBit_bool_toNat]
  simp [hi]

/-- A field reads back what it was made from, cut to its width (log entry 14). -/
@[simp] theorem extractLsb'_field_self {lo width : Nat} (h : lo + width ≤ 32) (v : Nat) :
    (field lo width v).extractLsb' lo width = BitVec.ofNat width v := by
  apply BitVec.eq_of_getLsbD_eq
  intro i hi
  have hin : lo + i < 32 := by omega
  rw [BitVec.getLsbD_extractLsb', getLsbD_field, BitVec.getLsbD_ofNat]
  simp [hi, hin]

@[simp] theorem extractLsb'_field_of_disjoint {lo width a n : Nat} (h : a + n ≤ lo ∨ lo + width ≤ a) (v : Nat) :
    (field lo width v).extractLsb' a n = 0#n := by
  apply BitVec.eq_of_getLsbD_eq
  intro i hi
  rw [BitVec.getLsbD_extractLsb', getLsbD_field_of_disjoint (by omega), Bool.and_false, BitVec.getLsbD_zero]

/-! ### STATUS -/

theorem exec_status (s : State) :
    exec .status s = .next { s with rsp := s.rsp ++ 0x02000008 :: statusWords s } := by
  have hrecord : recordWords 0x02 statusOk (statusWords s) = 0x02000008 :: statusWords s := by
    simp [recordWords, statusOk, statusWords]
  rw [← hrecord]
  rfl

/-! ### Operands that raise BAD_OPERAND -/

theorem takeFault_badOperand (w : Word32) (s : State) :
    takeFault .badOperand w s =
      { s with core := { faultCode := 0x82, faultCmd := w }, rsp := s.rsp ++ [0xFF820001, w] } := by
  have hrecord : recordWords 0xFF 0x82 [w] = [0xFF820001, w] := by simp [recordWords]
  rw [← hrecord]
  rfl

theorem withSample_of_notFinite {x : Word32} (hx : notFinite x) (w : Word32) (s : State) (k : RealVal → State) :
    withSample x w s k = .next (takeFault .badOperand w s) := by
  rw [withSample, (realOfF32_eq_none_iff x).2 hx]

theorem permuteFrame_of_badLlr {l : List Byte} (h : ∃ b ∈ l, ¬ inLlrRange b) (op : BitVec 8)
    (f : List Bool → List Bool) (g : List Llr → List Llr) (w : Word32) (s : State) :
    permuteFrame op f g w (.llrs l) s = .next (takeFault .badOperand w s) := by
  rw [permuteFrame, llrsOf_of_bad h]

/-- Rule R325, for every operation that has an operand of kind `llr`. -/
theorem exec_of_badLlr {i : Instr} (hwf : i.wellFormed = true) (h : ∃ b ∈ llrOperand i, ¬ inLlrRange b) (s : State) :
    exec i s = .next (takeFault .badOperand (commandWord i) s) := by
  unfold llrOperand at h
  split at h
  next mask nOut y => simp only [exec, execDepuncture, execDepunctureFor, if_pos hwf, llrsOf_of_bad h]
  next nOut l => simp only [exec, execVitDecode, if_pos hwf, llrsOf_of_bad h]
  next l => simp only [exec, execInterleave, permuteFrame_of_badLlr h]
  next l => simp only [exec, execDeinterleave, permuteFrame_of_badLlr h]
  next l => simp only [exec, execDerandomize, execDerandomizeFor, llrsOf_of_bad h]
  next a b =>
    have hbad : ¬ (inLlrRange a ∧ inLlrRange b) := by
      rintro ⟨ha, hb⟩
      simp only [List.mem_cons, List.not_mem_nil, or_false, exists_eq_or_imp, exists_eq_left] at h
      exact h.elim (absurd ha) (absurd hb)
    rw [takeFault_badOperand, commandWord_frmPush]
    exact exec_frmPush_of_bad hbad s
  next accept sync f => simp only [exec, execFdDecode, execFdDecodeFor, llrsOf_of_bad h]
  next => simp at h

/-- Rule R326, for every operation that has an operand of kind `f32`. -/
theorem exec_of_notFinite {i : Instr} {x : Word32} (hmem : x ∈ sampleOperand i) (hx : notFinite x) (s : State) :
    exec i s = .next (takeFault .badOperand (commandWord i) s) := by
  unfold sampleOperand at hmem
  split at hmem <;> cases hmem
  next => simp only [exec, execLlrMap, execLlrMapFor, (realOfF32_eq_none_iff x).2 hx]
  all_goals exact withSample_of_notFinite hx _ s _

/-! ### The value of a binary32 word -/

/-- The magnitude of a finite binary32 word with exponent field `e` and fraction `f`. -/
def f32Magnitude (e f : Nat) : RealVal :=
  if e = 0 then mkRat f (2 ^ 149)
  else if e < 150 then mkRat (2 ^ 23 + f) (2 ^ (150 - e))
  else ((2 ^ 23 + f) * 2 ^ (e - 150) : Nat)

theorem realOfF32_of_finite {x : Word32} (hx : ¬ notFinite x) :
    realOfF32 x = some ((if x.getLsbD 31 then -1 else 1) *
      f32Magnitude (x.extractLsb' 23 8).toNat (x.extractLsb' 0 23).toNat) := by
  have he : (x.extractLsb' 23 8).toNat ≠ 255 := fun h => hx (BitVec.eq_of_toNat_eq h)
  rw [realOfF32, if_neg he, ite_mul, neg_one_mul, one_mul]
  rfl

/-- Rule R62: the magnitude in units of 2^-149. -/
theorem f32Magnitude_mul_two_pow (e f : Nat) :
    f32Magnitude e f * 2 ^ 149 = ((if e = 0 then f else (2 ^ 23 + f) * 2 ^ (e - 1) : Nat) : RealVal) := by
  unfold f32Magnitude
  split
  case isTrue =>
    rw [Rat.mkRat_eq_div]
    push_cast
    exact div_mul_cancel₀ _ (by positivity)
  split
  next hpos hlt =>
    have hpow : (2 : RealVal) ^ 149 = 2 ^ (150 - e) * 2 ^ (e - 1) := by rw [← pow_add]; congr 1; omega
    rw [Rat.mkRat_eq_div, hpow, ← mul_assoc]
    push_cast
    rw [div_mul_cancel₀ _ (by positivity)]
  next hpos hge =>
    have hpow : (2 : RealVal) ^ (e - 1) = 2 ^ (e - 150) * 2 ^ 149 := by rw [← pow_add]; congr 1; omega
    push_cast
    rw [hpow, mul_assoc]

/-! ### The statements -/

/-- Settles O17, one lemma above for each clause. -/
theorem nopAndSetCfgWriteWhatTheySay : Obligations.NopAndSetCfgWriteWhatTheySay :=
  ⟨exec_nop, exec_setCfg, decode_nop, decode_setCfg⟩

/-- Settles O19: a word is the disjunction of its fields (`wordOfFields_cons`); where one field is read it gives its value
(`extractLsb'_field_self`, `getElem_field_flag`) and every other one gives 0 (`extractLsb'_field_of_disjoint`,
`getElem_field_of_disjoint`). -/
theorem statusReportsTheState : Obligations.StatusReportsTheState := by
  intro s
  refine ⟨_, _, _, _, exec_status s, ?word0, ?word1, ?word4, ?word5⟩
  all_goals simp [BitVec.extractLsb'_or]

/-- Settles O7: the two kinds of bad operand, then the value of a good one. -/
theorem badOperandTakesFault : Obligations.BadOperandTakesFault := by
  refine ⟨?fault, ?value⟩
  case fault =>
    intro i s hwf hbad
    rw [← takeFault_badOperand]
    obtain hllr | ⟨x, hmem, hx⟩ := hbad
    · exact exec_of_badLlr hwf hllr s
    · exact exec_of_notFinite hmem hx s
  case value =>
    intro x hx e f
    exact ⟨_, realOfF32_of_finite hx, by rw [mul_assoc, f32Magnitude_mul_two_pow]⟩

end Sys2Proof.Machine

/-! SUPPORT. The RESET operation (spec/70_reset_and_hazards.md rule R347): the state it leaves, the decoding of its command
word, and the statement about it. -/

namespace Sys2Proof.Machine

open Sys2Proof

/-! ### What RESET does to the state -/

theorem resetRegisters_m17core (s : State) :
    s.resetRegisters m17core = { State.reset with input := s.input, cmdIndex := s.cmdIndex, rsp := s.rsp } := rfl

/-- Rule R347: the response goes to the state already reset; the response stream itself is kept. -/
theorem exec_reset (s : State) :
    exec .reset s = .next { State.reset with
      input := s.input, cmdIndex := s.cmdIndex, rsp := s.rsp ++ [0x01000000] } := by
  have hrecord : recordWords 0x01 statusOk [] = [0x01000000] := by simp [recordWords, statusOk]
  have hexec : exec .reset s = .next (respond 0x01 statusOk [] (s.resetRegisters m17core)) := rfl
  rw [hexec, resetRegisters_m17core, ← hrecord]
  rfl

/-! ### Decoding RESET -/

theorem decode_reset (arg : BitVec 24) :
    decode [0x01#8 ++ arg] = if arg = 0 then .instr .reset 1 else .reject .badArg (0x01#8 ++ arg) :=
  decode_of_plain (by simp [decodeCommand]) []

/-! ### The statement -/

/-- Settles O18: `exec_reset` names the whole next state; the registers rule R55 leaves unspecified (log entry 2) are read
off it, the framer's count is `State.reset_frm_count`. -/
theorem resetOperationResetsEveryRegister : Obligations.ResetOperationResetsEveryRegister := by
  refine ⟨fun s => ⟨_, exec_reset s, ?state⟩, decode_reset⟩
  case state =>
    have hfrm : ({ buf := State.reset.frm.buf, count := 0 } : Frm) = State.reset.frm := by
      rw [← State.reset_frm_count]
    simp only [hfrm]

end Sys2Proof.Machine

/-! SUPPORT. Encoding (spec/30_encoding.md rules R80 to R84, R90, R91, R95): the command word as its two fields, the row of
the operation map that it selects, and the checks on it. -/

namespace Sys2Proof.Machine

open Sys2Proof

/-! ### A command word as its two fields -/

theorem opOf_append_argOf (w : Word32) : opOf w ++ argOf w = w := by
  apply BitVec.eq_of_getLsbD_eq
  intro i hi
  rw [BitVec.getLsbD_append]
  split
  case isTrue h => simp [argOf, h]
  case isFalse h =>
    have h8 : i - 24 < 8 := by omega
    have hin : 24 + (i - 24) = i := by omega
    simp [opOf, h8, hin]

theorem extractLsb'_argOf {s n : Nat} (h : s + n ≤ 24) (w : Word32) :
    (argOf w).extractLsb' s n = w.extractLsb' s n := by
  apply BitVec.eq_of_getLsbD_eq
  intro i hi
  have hin : s + i < 24 := by omega
  simp [argOf, hi, hin]

theorem getLsbD_argOf {i : Nat} (h : i < 24) (w : Word32) : (argOf w).getLsbD i = w.getLsbD i := by
  simp [argOf, h]

/-! ### Every format in one shape -/

/-- The selectors are the codes other than 3 (rule R27). -/
theorem synSelOf_cases (v : BitVec 2) :
    (v = 3 ∧ synSelOf v = none) ∨ (v ≠ 3 ∧ ∃ sel, synSelOf v = some sel ∧ sel.code = v) := by
  revert v
  decide

/-- The masks are the codes other than 0 (rule R27). -/
theorem maskSelOf_cases (v : BitVec 2) :
    (v = 0 ∧ maskSelOf v = none) ∨ (v ≠ 0 ∧ ∃ m, maskSelOf v = some m ∧ m.code = v) := by
  revert v
  decide

theorem selector_eq_legal (arg : BitVec 24) (build : SynSel → Instr) :
    ∃ made, selector arg build =
      reserved 0xFFFFFC arg (legal (decide (arg.extractLsb' 0 2 ≠ 3)) (.accept 0 made)) := by
  unfold selector
  generalize arg.extractLsb' 0 2 = v
  rcases synSelOf_cases v with ⟨rfl, -⟩ | ⟨hv, sel, hsel, -⟩
  · exact ⟨fun _ => .nop, rfl⟩
  · exact ⟨fun _ => build sel, by rw [hsel, decide_eq_true hv]; rfl⟩

theorem puncturing_eq_legal (arg : BitVec 24) (perWord : Nat)
    (build : MaskSel → BitVec 10 → Nat → List Word32 → Instr) :
    ∃ made, puncturing arg perWord build =
      reserved 0xC00000 arg (legal
        (decide (arg.extractLsb' 20 2 ≠ 0) && decide ((arg.extractLsb' 10 10).toNat ≤ 488) &&
          decide ((arg.extractLsb' 0 10).toNat ≤ 488))
        (.accept (((arg.extractLsb' 10 10).toNat + perWord - 1) / perWord) made)) := by
  unfold puncturing
  generalize arg.extractLsb' 20 2 = v
  rcases maskSelOf_cases v with ⟨rfl, -⟩ | ⟨hv, m, hsel, -⟩
  · exact ⟨fun _ => .nop, rfl⟩
  · exact ⟨_, by rw [hsel, decide_eq_true hv, Bool.true_and]; rfl⟩

theorem frameKind_eq_accept (arg : BitVec 24) (build : FrameOperand → Instr) :
    ∃ made, frameKind arg build =
      reserved 0xFFFFFE arg (.accept (if arg.getLsbD 0 then 92 else 12) made) := by
  rw [frameKind]
  cases arg.getLsbD 0
  · exact ⟨_, rfl⟩
  · exact ⟨_, rfl⟩

/-- Rules R82, R90, R91, R95: a row of the operation map fixes the reserved bits, the legal fields and the payload length. -/
theorem decodeCommand_of_row {row : BitVec 8 × Word32} (hrow : row ∈ operationMap) {w : Word32} (hop : opOf w = row.1) :
    ∃ build, decodeCommand w =
      reserved (argOf row.2) (argOf w) (legal (fieldsLegal w) (.accept (payloadLength w) build)) := by
  rw [← BitVec.toNat_inj] at hop
  revert hop row
  simp only [operationMap, List.forall_mem_cons, BitVec.reduceToNat]
  refine ⟨?nop, ?reset, ?status, ?setCfg, ?crcReset, ?crcUpdate, ?crcUpdaten, ?crcFinal, ?crcBytes, ?golayEnc,
    ?golayDec, ?convEnc, ?puncture, ?depuncture, ?llrMap, ?vitDecode, ?interleave, ?deinterleave, ?randomize,
    ?derandomize, ?corSample, ?corCorrelate, ?syncTriggered, ?syncStep, ?syncUpdated, ?dcdSample, ?dcdUpdate,
    ?clkSample, ?clkUpdate, ?clkReset, ?frmPush, ?frmReset, ?fdDecode, ?fdReset, ?demSample, ?encLsf, ?encLich,
    ?encStream, ?encPacket, ?encBert, nofun⟩
  all_goals
    intro hop
    rw [decodeCommand, fieldsLegal, payloadLength, hop]
  case golayDec => exact ⟨_, (if_pos BitVec.and_zero).symm⟩
  case crcUpdaten =>
    have hzero : decide ((w.extractLsb' 0 16).toNat ≠ 0) = decide (w.extractLsb' 0 16 ≠ 0) := by
      simp only [ne_eq, ← BitVec.toNat_inj]
      rfl
    simp (disch := decide) only [extractLsb'_argOf, hzero]
    exact ⟨_, rfl⟩
  case convEnc =>
    simp (disch := decide) only [extractLsb'_argOf]
    exact ⟨_, rfl⟩
  case vitDecode =>
    simp (disch := decide) only [extractLsb'_argOf]
    have hcounts : vitCountsOk (w.extractLsb' 10 10).toNat (w.extractLsb' 0 10).toNat =
        (decide ((w.extractLsb' 10 10).toNat % 2 = 0) && decide (2 ≤ (w.extractLsb' 10 10).toNat) &&
            decide ((w.extractLsb' 10 10).toNat ≤ 488) &&
          decide (2 * (w.extractLsb' 0 10).toNat ≤ (w.extractLsb' 10 10).toNat)) := by
      rw [Bool.eq_iff_iff]
      simp only [vitCountsOk, Bool.and_eq_true, decide_eq_true_eq, beq_iff_eq]
      simp only [Config.MAX_CODED]
      omega
    rw [hcounts]
    exact ⟨_, rfl⟩
  case encLich =>
    simp (disch := decide) only [extractLsb'_argOf]
    exact ⟨_, rfl⟩
  case puncture | depuncture =>
    simp (disch := decide) only [← extractLsb'_argOf]
    exact puncturing_eq_legal _ _ _
  case corCorrelate | syncTriggered | syncStep | syncUpdated =>
    simp (disch := decide) only [← extractLsb'_argOf]
    exact selector_eq_legal _ _
  case interleave | deinterleave =>
    rw [← getLsbD_argOf (by decide)]
    exact frameKind_eq_accept _ _
  all_goals exact ⟨_, rfl⟩

/-- An `op` of no row is illegal. -/
theorem decodeCommand_of_noRow {w : Word32} (h : ∀ row ∈ operationMap, row.1 ≠ opOf w) :
    decodeCommand w = .reject .illegalOp := by
  have hnone : (opOf w).toNat ∉ operationMap.map fun row => row.1.toNat := by
    rintro hmem
    obtain ⟨row, hrow, hop⟩ := List.mem_map.1 hmem
    exact h row hrow (BitVec.eq_of_toNat_eq hop)
  unfold decodeCommand
  generalize (opOf w).toNat = n at hnone ⊢
  split
  case h_41 => rfl
  all_goals exact absurd (by decide +kernel) hnone

/-! ### The row that a word selects -/

/-- The mask of a row covers the `op`. -/
theorem opOf_mask {row : BitVec 8 × Word32} (hrow : row ∈ operationMap) : opOf row.2 = 0xFF#8 := by
  have hall : (operationMap.all fun row => opOf row.2 == 0xFF#8) = true := rfl
  exact beq_iff_eq.1 (List.all_eq_true.1 hall row hrow)

theorem nodup_ops : (operationMap.map Prod.fst).Nodup := by
  decide +kernel

theorem selectsRow_iff {row : BitVec 8 × Word32} (hrow : row ∈ operationMap) (w : Word32) :
    selectsRow w row = true ↔ opOf w = row.1 ∧ argOf w &&& argOf row.2 = 0 := by
  have hand : w &&& row.2 = opOf w ++ (argOf w &&& argOf row.2) := by
    calc w &&& row.2
        = (opOf w ++ argOf w) &&& (opOf row.2 ++ argOf row.2) := by rw [opOf_append_argOf, opOf_append_argOf]
      _ = (opOf w &&& BitVec.allOnes 8) ++ (argOf w &&& argOf row.2) := by rw [BitVec.and_append, opOf_mask hrow]; rfl
      _ = opOf w ++ (argOf w &&& argOf row.2) := by rw [BitVec.and_allOnes]
  rw [selectsRow, hand, Bool.and_eq_true, decide_eq_true_eq, decide_eq_true_eq]
  refine and_congr_right fun hop => ?_
  rw [hop, BitVec.append_right_inj]

/-- For a word whose `op` is a row's: it selects a row exactly when it selects that one. -/
theorem exists_selectsRow_iff {row : BitVec 8 × Word32} (hrow : row ∈ operationMap) {w : Word32} (hop : opOf w = row.1) :
    (∃ row ∈ operationMap, selectsRow w row = true) ↔ argOf w &&& argOf row.2 = 0 := by
  constructor
  · rintro ⟨row', hrow', hsel⟩
    obtain ⟨hop', hzero⟩ := (selectsRow_iff hrow' w).1 hsel
    rwa [List.inj_on_of_nodup_map nodup_ops hrow hrow' (hop.symm.trans hop')]
  · exact fun hzero => ⟨row, hrow, (selectsRow_iff hrow w).2 ⟨hop, hzero⟩⟩

/-- Settles O4: the two checks of a row, in the order of rule R91. -/
theorem commandWordChecks : Obligations.CommandWordChecks := by
  intro w
  by_cases hrows : ∃ row ∈ operationMap, row.1 = opOf w
  case neg =>
    have hnone : ∀ row ∈ operationMap, row.1 ≠ opOf w := fun row hrow hop => hrows ⟨row, hrow, hop⟩
    rw [decodeCommand_of_noRow hnone]
    exact hnone
  case pos =>
    obtain ⟨row, hrow, hop⟩ := hrows
    obtain ⟨build, hform⟩ := decodeCommand_of_row hrow hop.symm
    have hselects := exists_selectsRow_iff hrow hop.symm
    rw [hform]
    by_cases hzero : argOf w &&& argOf row.2 = 0
    case neg =>
      rw [reserved, if_neg hzero]
      exact ⟨⟨row, hrow, hop⟩, fun h => hzero (hselects.1 h.1)⟩
    case pos =>
      rw [reserved, if_pos hzero, legal]
      by_cases hlegal : fieldsLegal w = true
      · rw [if_pos hlegal]
        exact ⟨hselects.2 hzero, hlegal, rfl⟩
      · rw [if_neg hlegal]
        exact ⟨⟨row, hrow, hop⟩, fun h => hlegal h.2⟩
end Sys2Proof.Machine

/-! SUPPORT. The packing of spec/20_memory.md rules R61 to R63 undone: bits and numbers, bits and bytes, bytes and words. -/

namespace Sys2Proof.Machine

open Sys2Proof

/-! ### A list cut into pieces -/

theorem chunksAux_of_le {α : Type} {k : Nat} (hk : 0 < k) {fuel fuel' : Nat} {xs : List α} (h : xs.length ≤ fuel)
    (h' : xs.length ≤ fuel') : chunksAux k fuel xs = chunksAux k fuel' xs := by
  induction fuel generalizing fuel' xs with
  | zero =>
    obtain rfl : xs = [] := List.eq_nil_of_length_eq_zero (by omega)
    cases fuel' <;> rfl
  | succ fuel ih =>
    cases xs with
    | nil => cases fuel' <;> rfl
    | cons x xs =>
      cases fuel' with
      | zero => simp at h'
      | succ fuel' =>
        have hdrop : ((x :: xs).drop k).length ≤ xs.length := by
          rw [List.length_drop, List.length_cons]
          omega
        rw [List.length_cons] at h h'
        rw [chunksAux, chunksAux, ih (fuel' := fuel') (by omega) (by omega)]

/-- The first piece, and the pieces of the rest. -/
theorem chunks_eq_take_cons {α : Type} {k : Nat} (hk : 0 < k) {xs : List α} (h : xs ≠ []) :
    chunks k xs = xs.take k :: chunks k (xs.drop k) := by
  obtain ⟨x, xs, rfl⟩ := List.exists_cons_of_ne_nil h
  have hdrop : ((x :: xs).drop k).length ≤ xs.length := by
    rw [List.length_drop, List.length_cons]
    omega
  rw [chunks, List.length_cons, chunksAux, chunksAux_of_le hk hdrop (Nat.le_refl _)]
  rfl

theorem chunks_append {α : Type} {k : Nat} (hk : 0 < k) {c : List α} (hc : c.length = k) (xs : List α) :
    chunks k (c ++ xs) = c :: chunks k xs := by
  have hne : c ++ xs ≠ [] := by
    intro h
    simp_all
  rw [chunks_eq_take_cons hk hne, List.take_left' hc, List.drop_left' hc]

/-- Every piece has at most `k` elements, all but the last exactly `k`: what reads back a whole piece and prolongs the last
one reads back the list and prolongs it. -/
theorem prefix_flatMap_chunks {α : Type} {k : Nat} (hk : 0 < k) {g : List α → List α}
    (hwhole : ∀ c, c.length = k → g c = c) (hlast : ∀ c, c.length < k → c <+: g c) (xs : List α) :
    xs <+: (chunks k xs).flatMap g := by
  induction hn : xs.length using Nat.strong_induction_on generalizing xs with
  | _ n ih =>
    by_cases hnil : xs = []
    · exact hnil ▸ List.nil_prefix
    rw [chunks_eq_take_cons hk hnil, List.flatMap_cons]
    rcases Nat.lt_or_ge xs.length k with hshort | hlong
    · rw [List.take_of_length_le hshort.le]
      exact (hlast xs hshort).trans (List.prefix_append _ _)
    · have hpos : 0 < xs.length := List.length_pos_iff.2 hnil
      have hrest : (xs.drop k).length < n := by rw [List.length_drop]; omega
      rw [hwhole _ (List.length_take_of_le hlong)]
      conv_lhs => rw [← List.take_append_drop k xs]
      exact (List.prefix_append_right_inj _).2 (ih _ hrest (xs.drop k) rfl)

/-! ### Bits and numbers -/

@[simp] theorem natOfBits_nil : natOfBits [] = 0 := rfl

theorem natOfBits_concat (bs : List Bool) (b : Bool) : natOfBits (bs ++ [b]) = 2 * natOfBits bs + b.toNat :=
  List.foldl_append

/-- Bit `i` of the number, counted from the least significant, is bit `i` of the list, counted from its end. -/
theorem testBit_natOfBits (bs : List Bool) (i : Nat) : (natOfBits bs).testBit i = bs.reverse.getD i false := by
  induction bs using List.reverseRecOn generalizing i with
  | nil => simp
  | append_singleton bs b ih =>
    have hbit : 2 * natOfBits bs + b.toNat = Nat.bit b (natOfBits bs) := (Nat.bit_val b _).symm
    rw [natOfBits_concat, hbit, List.reverse_concat]
    cases i with
    | zero => rw [Nat.testBit_bit_zero, List.getD_cons_zero]
    | succ i => rw [Nat.testBit_bit_succ, List.getD_cons_succ, ih]

/-- A list of `n` bits is the bits of the word they make. -/
theorem bitsOf_ofNat_natOfBits {n : Nat} {bs : List Bool} (h : bs.length = n) :
    bitsOf (BitVec.ofNat n (natOfBits bs)) = bs := by
  apply List.ext_getElem
  · rw [length_bitsOf, h]
  · intro i hi hbs
    have hlow : n - 1 - i < n := by omega
    have hback : n - 1 - (n - 1 - i) = i := by omega
    simp [bitsOf, BitVec.getLsbD_ofNat, testBit_natOfBits, hlow, h, hback]

theorem ofNat_natOfBits_bitsOf {n : Nat} (v : BitVec n) : BitVec.ofNat n (natOfBits (bitsOf v)) = v := by
  apply BitVec.eq_of_getLsbD_eq
  intro i hi
  have hlow : n - 1 - i < n := by omega
  have hback : n - 1 - (n - 1 - i) = i := by omega
  rw [BitVec.getLsbD_ofNat, testBit_natOfBits]
  simp [hi, bitsOf, hback]

/-! ### Bits and bytes -/

@[simp] theorem length_padTo {α : Type} {n : Nat} {d : α} {xs : List α} (h : xs.length ≤ n) :
    (padTo n d xs).length = n := by
  rw [padTo, List.length_append, List.length_replicate]
  omega

theorem padTo_of_length_eq {α : Type} {n : Nat} {d : α} {xs : List α} (h : xs.length = n) : padTo n d xs = xs := by
  simp [padTo, h]

/-- Rule R14: the bits of a byte made from at most eight bits are those, filled up with zeros. -/
theorem bitsOf_byteOfBits {bs : List Bool} (h : bs.length ≤ 8) : bitsOf (byteOfBits bs) = padTo 8 false bs :=
  bitsOf_ofNat_natOfBits (length_padTo h)

theorem byteOfBits_bitsOf (b : Byte) : byteOfBits (bitsOf b) = b := by
  rw [byteOfBits, padTo_of_length_eq (length_bitsOf b), ofNat_natOfBits_bitsOf]

theorem prefix_bitsOfBytes_bytesOfBits (bs : List Bool) : bs <+: bitsOfBytes (bytesOfBits bs) := by
  rw [bitsOfBytes, bytesOfBits, List.flatMap_map]
  refine prefix_flatMap_chunks (by decide) (fun c hc => ?_) (fun c hc => ?_) bs
  · rw [bitsOf_byteOfBits hc.le, padTo_of_length_eq hc]
  · rw [bitsOf_byteOfBits hc.le]
    exact List.prefix_append _ _

/-- Whole bytes come back from their bits. -/
@[simp] theorem bytesOfBits_bitsOfBytes (bytes : List Byte) : bytesOfBits (bitsOfBytes bytes) = bytes := by
  induction bytes with
  | nil => rfl
  | cons b bytes ih =>
    rw [bytesOfBits, bitsOfBytes_cons, chunks_append (by decide) (length_bitsOf b), List.map_cons, byteOfBits_bitsOf]
    exact congrArg (b :: ·) ih

/-! ### Bytes and words -/

/-- The four bytes of a word, read back. -/
theorem bytesOfWord_wordOfBytes {c : List Byte} (h : c.length ≤ 4) : bytesOfWord (wordOfBytes c) = padTo 4 0 c := by
  have hlen := length_padTo (d := (0 : Byte)) h
  rw [wordOfBytes]
  generalize padTo 4 0 c = q at hlen ⊢
  obtain ⟨a, b, c, d, rfl⟩ : ∃ a b c d, q = [a, b, c, d] := by
    match q, hlen with
    | [a, b, c, d], _ => exact ⟨a, b, c, d, rfl⟩
  have ha := a.isLt
  have hb := b.isLt
  have hc := c.isLt
  have hd := d.isLt
  simp only [bytesOfWord, List.foldl_cons, List.foldl_nil, List.cons.injEq, and_true, ← BitVec.toNat_inj,
    BitVec.extractLsb'_toNat, BitVec.toNat_ofNat, Nat.shiftRight_eq_div_pow]
  omega

theorem bitsOf_word (w : Word32) : bitsOf w = (bytesOfWord w).flatMap bitsOf := by
  simp [bitsOf, bytesOfWord, List.range_succ]

theorem prefix_bytes_packBytes (bytes : List Byte) : bytes <+: (packBytes bytes).flatMap bytesOfWord := by
  rw [packBytes, List.flatMap_map]
  refine prefix_flatMap_chunks (by decide) (fun c hc => ?_) (fun c hc => ?_) bytes
  · rw [bytesOfWord_wordOfBytes hc.le, padTo_of_length_eq hc]
  · rw [bytesOfWord_wordOfBytes hc.le]
    exact List.prefix_append _ _

theorem prefix_bits_packBits (bs : List Bool) : bs <+: (packBits bs).flatMap bitsOf := by
  have hwords : (packBits bs).flatMap bitsOf = bitsOfBytes ((packBytes (bytesOfBits bs)).flatMap bytesOfWord) := by
    rw [bitsOfBytes, List.flatMap_assoc, packBits]
    exact congrArg (packBytes (bytesOfBits bs)).flatMap (funext bitsOf_word)
  obtain ⟨tail, htail⟩ := prefix_bytes_packBytes (bytesOfBits bs)
  rw [hwords, ← htail, bitsOfBytes_append]
  exact (prefix_bitsOfBytes_bytesOfBits bs).trans (List.prefix_append _ _)

/-- Rule R62 reads back what rule R63 packs, whatever the padding. -/
theorem readBytes_packBytes {n : Nat} {bytes : List Byte} (h : bytes.length = n) :
    readBytes n (packBytes bytes) = bytes :=
  h ▸ (List.prefix_iff_eq_take.1 (prefix_bytes_packBytes bytes)).symm

theorem readBits_packBits {n : Nat} {bs : List Bool} (h : bs.length = n) : readBits n (packBits bs) = bs :=
  h ▸ (List.prefix_iff_eq_take.1 (prefix_bits_packBits bs)).symm

/-! ### How many elements are read -/

theorem length_flatMap_bytesOfWord (ws : List Word32) : (ws.flatMap bytesOfWord).length = 4 * ws.length := by
  induction ws with
  | nil => rfl
  | cons w ws ih =>
    rw [List.flatMap_cons, List.length_append, ih, List.length_cons]
    simp only [bytesOfWord, List.length_cons, List.length_nil]
    omega

theorem length_flatMap_bitsOf (ws : List Word32) : (ws.flatMap bitsOf).length = 32 * ws.length := by
  induction ws with
  | nil => rfl
  | cons w ws ih =>
    rw [List.flatMap_cons, List.length_append, ih, List.length_cons, length_bitsOf]
    omega

theorem length_readBytes {n : Nat} {ws : List Word32} (h : n ≤ 4 * ws.length) : (readBytes n ws).length = n := by
  rw [readBytes, List.length_take_of_le (by rwa [length_flatMap_bytesOfWord])]

theorem length_readBits {n : Nat} {ws : List Word32} (h : n ≤ 32 * ws.length) : (readBits n ws).length = n := by
  rw [readBits, List.length_take_of_le (by rwa [length_flatMap_bitsOf])]

end Sys2Proof.Machine

/-! SUPPORT. The decoder and the encoder undo each other (spec/30_encoding.md rules R80 to R84): what each format of a command
word makes of it, and the three statements about them. -/

namespace Sys2Proof.Machine

open Sys2Proof

/-! ### Reserved bits as a bound on the argument -/

theorem and_highMask_eq_zero_iff {n m : Nat} (v : BitVec (n + m)) :
    v &&& (BitVec.allOnes n ++ 0#m) = 0 ↔ v.toNat < 2 ^ m := by
  have hv := v.isLt
  rw [Nat.pow_add, Nat.mul_comm] at hv
  have hdiv : v.toNat / 2 ^ m < 2 ^ n := Nat.div_lt_of_lt_mul hv
  rw [and_allOnes_append_eq_zero_iff, ← BitVec.toNat_inj, BitVec.extractLsb'_toNat, Nat.shiftRight_eq_div_pow,
    Nat.mod_eq_of_lt hdiv]
  exact Nat.div_eq_zero_iff_lt (Nat.two_pow_pos m)

/-- A run of reserved bits is 0, wherever it stands. -/
theorem div_mod_eq_zero_of_and {v mask : BitVec 24} {s n : Nat} (h : v &&& mask = 0)
    (hmask : mask.extractLsb' s n = BitVec.allOnes n) : v.toNat / 2 ^ s % 2 ^ n = 0 := by
  have hand : (v &&& mask).extractLsb' s n = v.extractLsb' s n := by
    rw [BitVec.extractLsb'_and, hmask, BitVec.and_allOnes]
  rw [← Nat.shiftRight_eq_div_pow, ← BitVec.extractLsb'_toNat, ← hand, h, BitVec.extractLsb'_toNat]
  simp

/-! ### From a command word to the instruction and back -/

theorem command_eq {w : Word32} {op : BitVec 8} {n : Nat} (hop : (opOf w).toNat = op.toNat)
    (harg : n = (argOf w).toNat) : command op n = w := by
  rw [← opOf_append_argOf w, command, BitVec.eq_of_toNat_eq hop, harg, BitVec.ofNat_toNat, BitVec.setWidth_eq]

/-- What `form` makes of payload words of its length is well-formed and has the command word `w`. -/
def Spells (w : Word32) (form : CommandForm) : Prop :=
  ∀ plen build, form = .accept plen build → ∀ ws : List Word32, ws.length = plen →
    (build ws).wellFormed = true ∧ commandWord (build ws) = w

section
variable {w : Word32}

theorem spells_reject (c : FaultCause) : Spells w (.reject c) := nofun

theorem spells_accept {plen : Nat} {build : List Word32 → Instr}
    (h : ∀ ws : List Word32, ws.length = plen → (build ws).wellFormed = true ∧ commandWord (build ws) = w) :
    Spells w (.accept plen build) := by
  intro _ _ heq
  cases heq
  exact h

theorem spells_reserved {bits arg : BitVec 24} {k : CommandForm} (h : arg &&& bits = 0 → Spells w k) :
    Spells w (reserved bits arg k) := by
  rw [reserved]
  split
  · exact h ‹_›
  · exact spells_reject _

theorem spells_legal {ok : Bool} {k : CommandForm} (h : ok = true → Spells w k) : Spells w (legal ok k) := by
  rw [legal]
  split
  · exact h ‹_›
  · exact spells_reject _

/-- Format Z: the argument is 0. -/
theorem spells_payload {op : BitVec 8} (hop : (opOf w).toNat = op.toNat) {n : Nat} {build : List Word32 → Instr}
    (h : ∀ ws : List Word32, ws.length = n → (build ws).wellFormed = true ∧ commandWord (build ws) = command op 0) :
    Spells w (payload (argOf w) n build) := by
  refine spells_reserved fun hzero => spells_accept fun ws hws => ?_
  have harg : argOf w = 0 := BitVec.and_allOnes.symm.trans hzero
  obtain ⟨hwf, hword⟩ := h ws hws
  exact ⟨hwf, hword.trans (command_eq hop (by rw [harg]; rfl))⟩

theorem spells_plain {op : BitVec 8} (hop : (opOf w).toNat = op.toNat) {i : Instr} (hwf : i.wellFormed = true)
    (hword : commandWord i = command op 0) : Spells w (plain (argOf w) i) :=
  spells_payload hop fun _ _ => ⟨hwf, hword⟩

theorem spells_selector {op : BitVec 8} (hop : (opOf w).toNat = op.toNat) {build : SynSel → Instr}
    (hwf : ∀ sel, (build sel).wellFormed = true) (hword : ∀ sel, commandWord (build sel) = command op sel.code.toNat) :
    Spells w (selector (argOf w) build) := by
  refine spells_reserved fun hzero => ?_
  have hlt : (argOf w).toNat < 2 ^ 2 := (and_highMask_eq_zero_iff (n := 22) (m := 2) _).1 hzero
  rcases synSelOf_cases ((argOf w).extractLsb' 0 2) with ⟨-, hsel⟩ | ⟨-, sel, hsel, hcode⟩
  · rw [hsel]
    exact spells_reject _
  · rw [hsel]
    refine spells_accept fun ws _ => ⟨hwf sel, (hword sel).trans (command_eq hop ?_)⟩
    rw [hcode, BitVec.extractLsb'_toNat, Nat.shiftRight_zero, Nat.mod_eq_of_lt hlt]

theorem spells_puncturing {op : BitVec 8} (hop : (opOf w).toNat = op.toNat) {perWord : Nat}
    {build : MaskSel → BitVec 10 → Nat → List Word32 → Instr}
    (h : ∀ m nOut nIn ws, ws.length = ceilDiv nIn perWord → maskCountsOk nIn nOut.toNat = true →
      (build m nOut nIn ws).wellFormed = true ∧
        commandWord (build m nOut nIn ws) = command op (m.code.toNat * 2 ^ 20 + nIn * 2 ^ 10 + nOut.toNat)) :
    Spells w (puncturing (argOf w) perWord build) := by
  refine spells_reserved fun hzero => ?_
  have hlt : (argOf w).toNat < 2 ^ 22 := (and_highMask_eq_zero_iff (n := 2) (m := 22) _).1 hzero
  rcases maskSelOf_cases ((argOf w).extractLsb' 20 2) with ⟨-, hsel⟩ | ⟨-, m, hsel, hcode⟩
  · rw [hsel]
    exact spells_reject _
  · rw [hsel]
    refine spells_legal fun hcounts => spells_accept fun ws hws => ?_
    obtain ⟨hwf, hword⟩ := h m _ _ ws hws hcounts
    refine ⟨hwf, hword.trans (command_eq hop ?_)⟩
    simp only [hcode, BitVec.extractLsb'_toNat, Nat.shiftRight_eq_div_pow]
    omega

theorem spells_frameKind {op : BitVec 8} (hop : (opOf w).toNat = op.toNat) {build : FrameOperand → Instr}
    (hwf : ∀ x, (build x).wellFormed = (x.length == Config.FRAME_LLRS))
    (hbits : ∀ x, commandWord (build (.bits x)) = command op 0)
    (hllrs : ∀ x, commandWord (build (.llrs x)) = command op 1) : Spells w (frameKind (argOf w) build) := by
  refine spells_reserved fun hzero => ?_
  have hlt : (argOf w).toNat < 2 ^ 1 := (and_highMask_eq_zero_iff (n := 23) (m := 1) _).1 hzero
  have hbit : ((argOf w).getLsbD 0).toNat = (argOf w).toNat := by
    rw [BitVec.getLsbD, Nat.toNat_testBit]
    omega
  cases hkind : (argOf w).getLsbD 0 <;> rw [hkind] at hbit
  · refine spells_accept fun ws hws => ⟨?_, (hbits _).trans (command_eq hop hbit)⟩
    rw [hwf, FrameOperand.length, length_readBits (by omega)]
    rfl
  · refine spells_accept fun ws hws => ⟨?_, (hllrs _).trans (command_eq hop hbit)⟩
    rw [hwf, FrameOperand.length, length_readBytes (by omega)]
    rfl

end

/-- Rules R81, R83, R84, R95: what a command word and its payload make is well-formed and has that command word. -/
theorem spells_decodeCommand (w : Word32) : Spells w (decodeCommand w) := by
  unfold decodeCommand
  split
  case h_1 hop => exact spells_plain (op := 0x00) hop rfl rfl
  case h_2 hop => exact spells_plain (op := 0x01) hop rfl rfl
  case h_3 hop => exact spells_plain (op := 0x02) hop rfl rfl
  case h_4 hop =>
    refine spells_reserved fun hzero => spells_accept fun ws _ => ⟨rfl, command_eq hop ?_⟩
    have hlt : (argOf w).toNat < 2 ^ 2 := (and_highMask_eq_zero_iff (n := 22) (m := 2) _).1 hzero
    rw [BitVec.getLsbD, BitVec.getLsbD, Nat.toNat_testBit, Nat.toNat_testBit]
    omega
  case h_5 hop => exact spells_plain (op := 0x10) hop rfl rfl
  case h_6 hop =>
    refine spells_reserved fun hzero => spells_accept fun ws _ => ⟨rfl, command_eq hop ?_⟩
    have hlt : (argOf w).toNat < 2 ^ 8 := (and_highMask_eq_zero_iff (n := 16) (m := 8) _).1 hzero
    rw [BitVec.extractLsb'_toNat, Nat.shiftRight_zero, Nat.mod_eq_of_lt hlt]
  case h_7 hop =>
    refine spells_reserved fun hzero => spells_legal fun hcount => spells_accept fun ws hws => ?_
    have hlt : (argOf w).toNat < 2 ^ 16 := (and_highMask_eq_zero_iff (n := 8) (m := 16) _).1 hzero
    rw [BitVec.extractLsb'_toNat, Nat.shiftRight_zero, Nat.mod_eq_of_lt hlt] at hcount hws ⊢
    have hlen : (readBytes (argOf w).toNat ws).length = (argOf w).toNat :=
      length_readBytes (by rw [hws, ceilDiv]; omega)
    have hpos : (argOf w).toNat ≠ 0 := of_decide_eq_true hcount
    refine ⟨?_, command_eq hop hlen⟩
    rw [Instr.wellFormed, hlen, Bool.and_eq_true, decide_eq_true_eq, decide_eq_true_eq]
    omega
  case h_8 hop => exact spells_plain (op := 0x13) hop rfl rfl
  case h_9 hop => exact spells_plain (op := 0x14) hop rfl rfl
  case h_10 hop =>
    refine spells_reserved fun hzero => spells_accept fun ws _ => ⟨rfl, command_eq hop ?_⟩
    have hlt : (argOf w).toNat < 2 ^ 12 := (and_highMask_eq_zero_iff (n := 12) (m := 12) _).1 hzero
    rw [BitVec.extractLsb'_toNat, Nat.shiftRight_zero, Nat.mod_eq_of_lt hlt]
  case h_11 hop => exact spells_accept fun ws _ => ⟨rfl, command_eq hop rfl⟩
  case h_12 hop =>
    refine spells_reserved fun hzero => spells_legal fun hcount => spells_accept fun ws hws => ?_
    have hlt : (argOf w).toNat < 2 ^ 9 := (and_highMask_eq_zero_iff (n := 15) (m := 9) _).1 hzero
    rw [BitVec.extractLsb'_toNat, Nat.shiftRight_zero, Nat.mod_eq_of_lt hlt] at hcount hws ⊢
    have hlen : (readBits (argOf w).toNat ws).length = (argOf w).toNat :=
      length_readBits (by rw [hws, ceilDiv]; omega)
    exact ⟨by rwa [Instr.wellFormed, hlen], command_eq hop hlen⟩
  case h_13 hop =>
    refine spells_puncturing (op := 0x31) hop fun m nOut nIn ws hws hcounts => ?_
    have hlen : (readBits nIn ws).length = nIn := length_readBits (by rw [hws, ceilDiv]; omega)
    rw [Instr.wellFormed, commandWord, hlen]
    exact ⟨hcounts, rfl⟩
  case h_14 hop =>
    refine spells_puncturing (op := 0x32) hop fun m nOut nIn ws hws hcounts => ?_
    have hlen : (readBytes nIn ws).length = nIn := length_readBytes (by rw [hws, ceilDiv]; omega)
    rw [Instr.wellFormed, commandWord, hlen]
    exact ⟨hcounts, rfl⟩
  case h_15 hop => exact spells_payload (op := 0x33) hop fun _ _ => ⟨rfl, rfl⟩
  case h_16 hop =>
    refine spells_reserved fun hzero => spells_legal fun hcounts => spells_accept fun ws hws => ?_
    have hlt : (argOf w).toNat < 2 ^ 20 := (and_highMask_eq_zero_iff (n := 4) (m := 20) _).1 hzero
    have hlen : (readBytes ((argOf w).extractLsb' 10 10).toNat ws).length = ((argOf w).extractLsb' 10 10).toNat :=
      length_readBytes (by rw [hws, ceilDiv]; omega)
    rw [Instr.wellFormed, commandWord, hlen]
    refine ⟨hcounts, command_eq hop ?_⟩
    simp only [BitVec.extractLsb'_toNat, Nat.shiftRight_eq_div_pow]
    omega
  case h_17 hop => exact spells_frameKind (op := 0x50) hop (fun _ => rfl) (fun _ => rfl) (fun _ => rfl)
  case h_18 hop => exact spells_frameKind (op := 0x51) hop (fun _ => rfl) (fun _ => rfl) (fun _ => rfl)
  case h_19 hop =>
    refine spells_payload (op := 0x52) hop fun ws hws => ⟨?_, rfl⟩
    rw [Instr.wellFormed, length_readBits (by omega)]
    rfl
  case h_20 hop =>
    refine spells_payload (op := 0x53) hop fun ws hws => ⟨?_, rfl⟩
    rw [Instr.wellFormed, length_readBytes (by omega)]
    rfl
  case h_21 hop => exact spells_payload (op := 0x60) hop fun _ _ => ⟨rfl, rfl⟩
  case h_22 hop => exact spells_selector (op := 0x61) hop (fun _ => rfl) (fun _ => rfl)
  case h_23 hop => exact spells_selector (op := 0x62) hop (fun _ => rfl) (fun _ => rfl)
  case h_24 hop => exact spells_selector (op := 0x63) hop (fun _ => rfl) (fun _ => rfl)
  case h_25 hop => exact spells_selector (op := 0x64) hop (fun _ => rfl) (fun _ => rfl)
  case h_26 hop => exact spells_payload (op := 0x68) hop fun _ _ => ⟨rfl, rfl⟩
  case h_27 hop => exact spells_plain (op := 0x69) hop rfl rfl
  case h_28 hop => exact spells_payload (op := 0x70) hop fun _ _ => ⟨rfl, rfl⟩
  case h_29 hop => exact spells_plain (op := 0x71) hop rfl rfl
  case h_30 hop => exact spells_plain (op := 0x72) hop rfl rfl
  case h_31 hop =>
    refine spells_reserved fun hzero => spells_accept fun ws _ => ⟨rfl, command_eq hop ?_⟩
    have hlt : (argOf w).toNat < 2 ^ 16 := (and_highMask_eq_zero_iff (n := 8) (m := 16) _).1 hzero
    simp only [BitVec.extractLsb'_toNat, Nat.shiftRight_eq_div_pow]
    omega
  case h_32 hop => exact spells_plain (op := 0x81) hop rfl rfl
  case h_33 hop =>
    refine spells_reserved fun hzero => spells_accept fun ws hws => ⟨?_, command_eq hop ?_⟩
    · rw [Instr.wellFormed, length_readBytes (by omega)]
      rfl
    · have hhigh := div_mod_eq_zero_of_and (s := 9) (n := 15) hzero rfl
      have hmid := div_mod_eq_zero_of_and (s := 2) (n := 6) hzero rfl
      have hcode : ∀ v : BitVec 2, (syncTypeOf v).code = v := by decide
      have hv := (argOf w).isLt
      rw [hcode, BitVec.getLsbD, Nat.toNat_testBit]
      rw [BitVec.extractLsb'_toNat, Nat.shiftRight_zero]
      omega
  case h_34 hop => exact spells_plain (op := 0x89) hop rfl rfl
  case h_35 hop =>
    refine spells_reserved fun hzero => spells_accept fun ws _ => ⟨rfl, command_eq hop ?_⟩
    have hhigh := div_mod_eq_zero_of_and (s := 9) (n := 15) hzero rfl
    have hlow := div_mod_eq_zero_of_and (s := 0) (n := 8) hzero rfl
    have hv := (argOf w).isLt
    rw [BitVec.getLsbD, Nat.toNat_testBit]
    omega
  case h_36 hop =>
    refine spells_payload (op := 0xA0) hop fun ws hws => ⟨?_, rfl⟩
    rw [Instr.wellFormed, length_readBytes (by omega)]
    rfl
  case h_37 hop =>
    refine spells_reserved fun hzero => spells_legal fun hindex => spells_accept fun ws hws => ⟨?_, command_eq hop ?_⟩
    · rw [Instr.wellFormed, length_readBytes (by omega), hindex]
      rfl
    · have hlt : (argOf w).toNat < 2 ^ 3 := (and_highMask_eq_zero_iff (n := 21) (m := 3) _).1 hzero
      rw [BitVec.extractLsb'_toNat, Nat.shiftRight_zero, Nat.mod_eq_of_lt hlt]
  case h_38 hop =>
    refine spells_payload (op := 0xA2) hop fun ws hws => ⟨?_, rfl⟩
    rw [Instr.wellFormed, length_readBytes (by omega)]
    rfl
  case h_39 hop =>
    refine spells_payload (op := 0xA3) hop fun ws hws => ⟨?_, rfl⟩
    rw [Instr.wellFormed, length_readBytes (by omega)]
    rfl
  case h_40 hop =>
    refine spells_payload (op := 0xA4) hop fun ws hws => ⟨?_, rfl⟩
    rw [Instr.wellFormed, length_readBytes (by omega)]
    rfl
  case h_41 => exact spells_reject _

/-! ### From an instruction to its words and back -/

theorem decode_append_of_accept {w : Word32} {build : List Word32 → Instr} {ws : List Word32}
    (h : decodeCommand w = .accept ws.length build) (rest : List Word32) :
    decode (w :: ws ++ rest) = .instr (build ws) (ws.length + 1) := by
  have hlong : ¬ (ws ++ rest).length < ws.length := by simp
  rw [List.cons_append, decode]
  simp only [h, if_neg hlong, List.take_left']

/-- The decoder makes `i` of the payload words the encoder writes for it. -/
def Reads (i : Instr) : Prop :=
  ∃ build, decodeCommand (commandWord i) = .accept (payloadWords i).length build ∧ build (payloadWords i) = i

theorem decode_encode_of_reads {i : Instr} (h : Reads i) (rest : List Word32) :
    decode (encode i ++ rest) = .instr i (encode i).length := by
  obtain ⟨build, hform, hbuild⟩ := h
  rw [encode, decode_append_of_accept hform, hbuild]
  rfl

theorem reads_of_bytes {i : Instr} {n k : Nat} {bytes : List Byte} {build : List Byte → Instr}
    (hform : decodeCommand (commandWord i) = .accept k fun ws => build (readBytes n ws))
    (hpayload : payloadWords i = packBytes bytes) (hlen : bytes.length = n) (hk : k = (n + 3) / 4)
    (hbuild : build bytes = i) : Reads i := by
  refine ⟨fun ws => build (readBytes n ws), ?_, ?_⟩
  · rw [hform, hpayload, packBytes_length, hlen, hk]
  · simp only [hpayload, readBytes_packBytes hlen, hbuild]

theorem reads_of_bits {i : Instr} {n k : Nat} {bits : List Bool} {build : List Bool → Instr}
    (hform : decodeCommand (commandWord i) = .accept k fun ws => build (readBits n ws))
    (hpayload : payloadWords i = packBits bits) (hlen : bits.length = n) (hk : k = (n + 31) / 32)
    (hbuild : build bits = i) : Reads i := by
  refine ⟨fun ws => build (readBits n ws), ?_, ?_⟩
  · rw [hform, hpayload, packBits_length, hlen, hk]
  · simp only [hpayload, readBits_packBits hlen, hbuild]

/-! The symbolic command words: a field of the argument reads back what was written there. -/

theorem reserved_ofNat_eq {n m k : Nat} {mask : BitVec (n + m)} (hk : k < 2 ^ m)
    (hmask : mask = BitVec.allOnes n ++ 0#m) : BitVec.ofNat (n + m) k &&& mask = 0 := by
  rw [hmask, and_highMask_eq_zero_iff, BitVec.toNat_ofNat]
  exact (Nat.mod_le _ _).trans_lt hk

theorem reserved_of_eq_zero {bits arg : BitVec 24} (h : arg &&& bits = 0) (k : CommandForm) :
    reserved bits arg k = k :=
  if_pos h

theorem extractLsb'_ofNat {s n : Nat} (h : s + n ≤ 24) (k : Nat) :
    (BitVec.ofNat 24 k).extractLsb' s n = BitVec.ofNat n (k / 2 ^ s) := by
  apply BitVec.eq_of_getLsbD_eq
  intro i hi
  have hin : s + i < 24 := by omega
  rw [BitVec.getLsbD_extractLsb', BitVec.getLsbD_ofNat, BitVec.getLsbD_ofNat, Nat.testBit_div_two_pow, Nat.add_comm i s]
  simp [hi, hin]

theorem toNat_extractLsb'_ofNat {s n : Nat} (h : s + n ≤ 24) (k : Nat) :
    ((BitVec.ofNat 24 k).extractLsb' s n).toNat = k / 2 ^ s % 2 ^ n := by
  rw [extractLsb'_ofNat h, BitVec.toNat_ofNat]

theorem decodeCommand_crcUpdate (b : Byte) :
    decodeCommand (command 0x11 b.toNat) = .accept 0 fun _ => .crcUpdate b := by
  rw [command, decodeCommand, opOf_append, argOf_append]
  refine (reserved_of_eq_zero (reserved_ofNat_eq (n := 16) (m := 8) b.isLt rfl) _).trans ?_
  rw [extractLsb'_ofNat (by decide), pow_zero, Nat.div_one, BitVec.ofNat_toNat, BitVec.setWidth_eq]

theorem decodeCommand_crcUpdaten {n : Nat} (h1 : 1 ≤ n) (h2 : n ≤ 65535) :
    decodeCommand (command 0x12 n) = .accept (ceilDiv n 4) fun ws => .crcUpdaten (readBytes n ws) := by
  rw [command, decodeCommand, opOf_append, argOf_append]
  refine (reserved_of_eq_zero (reserved_ofNat_eq (n := 8) (m := 16) (by omega) rfl) _).trans ?_
  have hn : ((BitVec.ofNat 24 n).extractLsb' 0 16).toNat = n := by
    rw [toNat_extractLsb'_ofNat (by decide)]
    omega
  rw [hn]
  exact if_pos (decide_eq_true (by omega))

theorem decodeCommand_golayEnc (d : BitVec 12) :
    decodeCommand (command 0x20 d.toNat) = .accept 0 fun _ => .golayEnc d := by
  rw [command, decodeCommand, opOf_append, argOf_append]
  refine (reserved_of_eq_zero (reserved_ofNat_eq (n := 12) (m := 12) d.isLt rfl) _).trans ?_
  rw [extractLsb'_ofNat (by decide), pow_zero, Nat.div_one, BitVec.ofNat_toNat, BitVec.setWidth_eq]

theorem decodeCommand_golayDec (v : BitVec 24) :
    decodeCommand (command 0x21 v.toNat) = .accept 0 fun _ => .golayDec v := by
  rw [command, decodeCommand, opOf_append, argOf_append, BitVec.ofNat_toNat, BitVec.setWidth_eq]
  rfl

theorem decodeCommand_convEnc {n : Nat} (h : n ≤ 240) :
    decodeCommand (command 0x30 n) = .accept (ceilDiv n 32) fun ws => .convEnc (readBits n ws) := by
  rw [command, decodeCommand, opOf_append, argOf_append]
  refine (reserved_of_eq_zero (reserved_ofNat_eq (n := 15) (m := 9) (by omega) rfl) _).trans ?_
  have hn : ((BitVec.ofNat 24 n).extractLsb' 0 9).toNat = n := by
    rw [toNat_extractLsb'_ofNat (by decide)]
    omega
  rw [hn]
  exact if_pos (decide_eq_true h)

/-- Format PUN, both element kinds. -/
theorem puncturing_ofNat {m : MaskSel} {nOut : BitVec 10} {nIn : Nat} (h : maskCountsOk nIn nOut.toNat = true)
    (perWord : Nat) (build : MaskSel → BitVec 10 → Nat → List Word32 → Instr) :
    puncturing (BitVec.ofNat 24 (m.code.toNat * 2 ^ 20 + nIn * 2 ^ 10 + nOut.toNat)) perWord build =
      .accept (ceilDiv nIn perWord) (build m nOut nIn) := by
  have hIn : nIn ≤ 488 := of_decide_eq_true (Bool.and_eq_true_iff.1 h).1
  have hOut := nOut.isLt
  have hcode := m.code.isLt
  have hm : maskSelOf m.code = some m := by cases m <;> rfl
  have hmask : (BitVec.ofNat 24 (m.code.toNat * 2 ^ 20 + nIn * 2 ^ 10 + nOut.toNat)).extractLsb' 20 2 = m.code := by
    apply BitVec.eq_of_toNat_eq
    rw [toNat_extractLsb'_ofNat (by decide)]
    omega
  have hnIn : ((BitVec.ofNat 24 (m.code.toNat * 2 ^ 20 + nIn * 2 ^ 10 + nOut.toNat)).extractLsb' 10 10).toNat = nIn := by
    rw [toNat_extractLsb'_ofNat (by decide)]
    omega
  have hnOut : (BitVec.ofNat 24 (m.code.toNat * 2 ^ 20 + nIn * 2 ^ 10 + nOut.toNat)).extractLsb' 0 10 = nOut := by
    apply BitVec.eq_of_toNat_eq
    rw [toNat_extractLsb'_ofNat (by decide)]
    omega
  refine (reserved_of_eq_zero (reserved_ofNat_eq (n := 2) (m := 22) (by omega) rfl) _).trans ?_
  rw [hmask, hm, hnIn, hnOut]
  exact if_pos h

theorem decodeCommand_puncture (n : Nat) :
    decodeCommand (command 0x31 n) =
      puncturing (BitVec.ofNat 24 n) 32 fun m nOut nIn ws => .puncture m nOut (readBits nIn ws) := by
  rw [command, decodeCommand, opOf_append, argOf_append]
  rfl

theorem decodeCommand_depuncture (n : Nat) :
    decodeCommand (command 0x32 n) =
      puncturing (BitVec.ofNat 24 n) 4 fun m nOut nIn ws => .depuncture m nOut (readBytes nIn ws) := by
  rw [command, decodeCommand, opOf_append, argOf_append]
  rfl

theorem decodeCommand_vitDecode {nOut : BitVec 10} {nIn : Nat} (h : vitCountsOk nIn nOut.toNat = true) :
    decodeCommand (command 0x40 (nIn * 2 ^ 10 + nOut.toNat)) =
      .accept (ceilDiv nIn 4) fun ws => .vitDecode nOut (readBytes nIn ws) := by
  have hIn : nIn ≤ 488 := by
    rw [vitCountsOk, Bool.and_eq_true, Bool.and_eq_true] at h
    exact of_decide_eq_true h.1.2
  have hOut := nOut.isLt
  have hnIn : ((BitVec.ofNat 24 (nIn * 2 ^ 10 + nOut.toNat)).extractLsb' 10 10).toNat = nIn := by
    rw [toNat_extractLsb'_ofNat (by decide)]
    omega
  have hnOut : (BitVec.ofNat 24 (nIn * 2 ^ 10 + nOut.toNat)).extractLsb' 0 10 = nOut := by
    apply BitVec.eq_of_toNat_eq
    rw [toNat_extractLsb'_ofNat (by decide)]
    omega
  rw [command, decodeCommand, opOf_append, argOf_append]
  refine (reserved_of_eq_zero (reserved_ofNat_eq (n := 4) (m := 20) (by omega) rfl) _).trans ?_
  rw [hnIn, hnOut]
  exact if_pos h

theorem decodeCommand_frmPush (a b : Byte) :
    decodeCommand (command 0x80 (a.toNat * 2 ^ 8 + b.toNat)) = .accept 0 fun _ => .frmPush a b := by
  have ha := a.isLt
  have hb := b.isLt
  have hfirst : (BitVec.ofNat 24 (a.toNat * 2 ^ 8 + b.toNat)).extractLsb' 8 8 = a := by
    apply BitVec.eq_of_toNat_eq
    rw [toNat_extractLsb'_ofNat (by decide)]
    omega
  have hsecond : (BitVec.ofNat 24 (a.toNat * 2 ^ 8 + b.toNat)).extractLsb' 0 8 = b := by
    apply BitVec.eq_of_toNat_eq
    rw [toNat_extractLsb'_ofNat (by decide)]
    omega
  rw [command, decodeCommand, opOf_append, argOf_append]
  refine (reserved_of_eq_zero (reserved_ofNat_eq (n := 8) (m := 16) (by omega) rfl) _).trans ?_
  rw [hfirst, hsecond]

theorem decodeCommand_encLich {index : BitVec 3} (h : index.toNat ≤ 5) :
    decodeCommand (command 0xA1 index.toNat) = .accept 2 fun ws => .encLich index (readBytes 5 ws) := by
  rw [command, decodeCommand, opOf_append, argOf_append]
  refine (reserved_of_eq_zero (reserved_ofNat_eq (n := 21) (m := 3) index.isLt rfl) _).trans ?_
  rw [extractLsb'_ofNat (by decide), pow_zero, Nat.div_one, BitVec.ofNat_toNat, BitVec.setWidth_eq]
  exact if_pos (decide_eq_true h)

/-! ### The statements -/

theorem reads_of_wellFormed {i : Instr} (hwf : i.wellFormed = true) : Reads i := by
  cases i
  case setCfg p d => cases p <;> cases d <;> exact ⟨_, rfl, rfl⟩
  case crcUpdate b => exact ⟨_, decodeCommand_crcUpdate b, rfl⟩
  case crcUpdaten bytes =>
    simp only [Instr.wellFormed, Bool.and_eq_true, decide_eq_true_eq] at hwf
    exact reads_of_bytes (decodeCommand_crcUpdaten hwf.1 hwf.2) rfl rfl rfl rfl
  case golayEnc d => exact ⟨_, decodeCommand_golayEnc d, rfl⟩
  case golayDec v => exact ⟨_, decodeCommand_golayDec v, rfl⟩
  case convEnc x => exact reads_of_bits (decodeCommand_convEnc (of_decide_eq_true hwf)) rfl rfl rfl rfl
  case puncture m nOut x =>
    have hform := (decodeCommand_puncture _).trans (puncturing_ofNat (m := m) hwf 32 _)
    exact reads_of_bits hform rfl rfl rfl rfl
  case depuncture m nOut y =>
    have hform := (decodeCommand_depuncture _).trans (puncturing_ofNat (m := m) hwf 4 _)
    exact reads_of_bytes hform rfl rfl rfl rfl
  case vitDecode nOut l => exact reads_of_bytes (decodeCommand_vitDecode hwf) rfl rfl rfl rfl
  case interleave x =>
    have hlen : x.length = 368 := beq_iff_eq.1 hwf
    cases x
    · exact reads_of_bits (build := fun b => .interleave (.bits b)) (by rw [commandWord]; rfl) rfl hlen rfl rfl
    · exact reads_of_bytes (build := fun l => .interleave (.llrs l)) (by rw [commandWord]; rfl) rfl hlen rfl rfl
  case deinterleave x =>
    have hlen : x.length = 368 := beq_iff_eq.1 hwf
    cases x
    · exact reads_of_bits (build := fun b => .deinterleave (.bits b)) (by rw [commandWord]; rfl) rfl hlen rfl rfl
    · exact reads_of_bytes (build := fun l => .deinterleave (.llrs l)) (by rw [commandWord]; rfl) rfl hlen rfl rfl
  case randomize x => exact reads_of_bits (by rw [commandWord]; rfl) rfl (beq_iff_eq.1 hwf) rfl rfl
  case derandomize l => exact reads_of_bytes (by rw [commandWord]; rfl) rfl (beq_iff_eq.1 hwf) rfl rfl
  case corCorrelate sel | syncTriggered sel | syncStep sel | syncUpdated sel => cases sel <;> exact ⟨_, rfl, rfl⟩
  case frmPush a b => exact ⟨_, decodeCommand_frmPush a b, rfl⟩
  case fdDecode acc sync f =>
    cases acc <;> cases sync <;>
      exact reads_of_bytes (by rw [commandWord]; rfl) rfl (beq_iff_eq.1 hwf) rfl rfl
  case demSample acc x => cases acc <;> exact ⟨_, by rw [commandWord]; rfl, rfl⟩
  case encLich index bytes =>
    have hok := Bool.and_eq_true_iff.1 hwf
    exact reads_of_bytes (decodeCommand_encLich (of_decide_eq_true hok.1)) rfl (beq_iff_eq.1 hok.2) rfl rfl
  case encLsf | encStream | encPacket | encBert =>
    exact reads_of_bytes (by rw [commandWord]; rfl) rfl (beq_iff_eq.1 hwf) rfl rfl
  all_goals exact ⟨_, by rw [commandWord]; rfl, rfl⟩

/-- Settles O1: `reads_of_wellFormed` for each of the forty operations. -/
theorem decodeOfEncodeIsInstruction : Obligations.DecodeOfEncodeIsInstruction :=
  fun _ rest hwf => decode_encode_of_reads (reads_of_wellFormed hwf) rest

theorem decode_cons_eq_instr_iff (w : Word32) (ws : List Word32) (i : Instr) (n : Nat) :
    decode (w :: ws) = .instr i n ↔
      ∃ plen build, decodeCommand w = .accept plen build ∧ plen ≤ ws.length ∧ i = build (ws.take plen) ∧ n = plen + 1 := by
  rw [decode]
  cases decodeCommand w with
  | reject c => simp
  | accept plen build =>
    by_cases hshort : ws.length < plen
    · simp [hshort]
    · simp [hshort, not_lt.1 hshort, eq_comm]

/-- Settles O2: `spells_decodeCommand` on the payload words that were taken; their number is that of O4. -/
theorem decodedInstructionKeepsCommandWord : Obligations.DecodedInstructionKeepsCommandWord := by
  intro w ws i n h
  obtain ⟨plen, build, hform, hlen, rfl, rfl⟩ := (decode_cons_eq_instr_iff w ws i n).1 h
  obtain ⟨hwf, hword⟩ := spells_decodeCommand w plen build hform (ws.take plen) (List.length_take_of_le hlen)
  have hplen : plen = payloadLength w := by
    have hchecks := commandWordChecks w
    rw [hform] at hchecks
    exact hchecks.2.2
  refine ⟨hwf, hword, by omega, ?_⟩
  rw [List.length_cons]
  omega

/-- Settles O3, by evaluation. -/
theorem sampleWordsDecode : Obligations.SampleWordsDecode := by
  unfold Obligations.SampleWordsDecode
  decide +kernel

end Sys2Proof.Machine

/-! SUPPORT. The checksum over the sum of two messages (spec/40_crc16.md rule R119), and four errors in a Golay codeword
(spec/41_golay24.md rule R127 (a)). -/

namespace Sys2Proof.Machine

open Sys2Proof

/-! ### The checksum is affine -/

theorem zipWith_xor_bitsOf {n : Nat} (a b : BitVec n) :
    bitsOf (a ^^^ b) = List.zipWith (· ^^ ·) (bitsOf a) (bitsOf b) := by
  simp [bitsOf, List.zipWith_map]

theorem bitsOfBytes_zipWith_xor {a b : List Byte} (h : a.length = b.length) :
    bitsOfBytes (List.zipWith (· ^^^ ·) a b) = List.zipWith (· ^^ ·) (bitsOfBytes a) (bitsOfBytes b) := by
  induction a generalizing b with
  | nil => simp [bitsOfBytes]
  | cons x a ih =>
    obtain ⟨y, b, rfl⟩ := List.exists_cons_of_length_eq_add_one h.symm
    rw [List.zipWith_cons_cons, bitsOfBytes_cons, bitsOfBytes_cons, bitsOfBytes_cons, zipWith_xor_bitsOf,
      ih (Nat.succ.inj h), List.zipWith_append (by simp)]

/-- The register is linear in the bits shifted in and what it held. -/
theorem foldl_crcShiftWith_zipWith (poly : BitVec 16) {as bs : List Bool} (h : as.length = bs.length) (x y : BitVec 16) :
    (List.zipWith (· ^^ ·) as bs).foldl (crcShiftWith poly) (x ^^^ y) =
      as.foldl (crcShiftWith poly) x ^^^ bs.foldl (crcShiftWith poly) y := by
  induction as generalizing bs x y with
  | nil => simp [List.length_eq_zero_iff.1 h.symm]
  | cons a as ih =>
    obtain ⟨b, bs, rfl⟩ := List.exists_cons_of_length_eq_add_one h.symm
    rw [List.zipWith_cons_cons, List.foldl_cons, crcShiftWith_xor, ih (Nat.succ.inj h)]
    rfl

/-- The checksums of two messages differ by that of their sum from the seed 0. -/
theorem crcValue_zipWith (poly x y : BitVec 16) {a b : List Byte} (h : a.length = b.length) :
    crcValue poly (x ^^^ y) (List.zipWith (· ^^^ ·) a b) = crcValue poly x a ^^^ crcValue poly y b := by
  have hbits : (bitsOfBytes a).length = (bitsOfBytes b).length := by
    rw [length_bitsOfBytes, length_bitsOfBytes, h]
  have hzeros : List.replicate 16 false =
      List.zipWith (· ^^ ·) (List.replicate 16 false) (List.replicate 16 false) := rfl
  rw [crcValue, bitsOfBytes_zipWith_xor h, hzeros, ← List.zipWith_append hbits, foldl_crcShiftWith_zipWith _ (by simp [h])]
  rfl

/-- Settles O25: three seeds sum to one, and the sum with a message of zeros changes nothing. -/
theorem crcIsAffine : Obligations.CrcIsAffine := by
  intro a b h
  have hsum : (List.zipWith (· ^^^ ·) a b).length = (List.replicate a.length (0 : Byte)).length := by
    simp [h]
  have hzeros : List.zipWith (· ^^^ ·) (List.zipWith (· ^^^ ·) a b) (List.replicate a.length (0 : Byte)) =
      List.zipWith (· ^^^ ·) a b := by
    apply List.ext_getElem
    · simp [h]
    · intro i _ _
      simp
  simp only [crc16_eq_crcValue]
  calc crcValue 0x5935 0x36E6 (List.zipWith (· ^^^ ·) a b)
      = crcValue 0x5935 ((0x36E6 ^^^ 0x36E6) ^^^ 0x36E6)
          (List.zipWith (· ^^^ ·) (List.zipWith (· ^^^ ·) a b) (List.replicate a.length 0)) := by
        rw [hzeros, BitVec.xor_self, BitVec.zero_xor]
    _ = _ := by rw [crcValue_zipWith _ _ _ hsum, crcValue_zipWith _ _ _ h]

/-! ### Four errors -/

/-- Two words with one syndrome, the second of four ones, the first of at most three: it has exactly three.  With fewer, one
bit of the second moved to the first would make two words of at most three ones with one syndrome. -/
theorem popcount_eq_three_of_golaySyndrome_eq {e g : BitVec 23} (he : popcount e ≤ 3) (hg : popcount g = 4)
    (h : golaySyndrome e = golaySyndrome g) : popcount e = 3 := by
  by_contra hne
  obtain ⟨i, hi⟩ : ∃ i, i ∈ onesOf g := List.exists_mem_of_length_pos (by rw [length_onesOf, hg]; decide)
  obtain ⟨hrange, hbit⟩ := List.mem_filter.1 hi
  have hand : g &&& (1#23 <<< i) = 1#23 <<< i := by
    apply BitVec.eq_of_getLsbD_eq
    intro j hj
    rw [BitVec.getLsbD_and, getLsbD_singleBit]
    by_cases hji : j = i
    · simp [hji, hbit]
    · simp [hji]
  have hone : popcount (1#23 <<< i) = 1 :=
    (by decide : ∀ i < 23, popcount (1#23 <<< i) = 1) i (List.mem_range.1 hrange)
  have hxor := popcount_xor_add g (1#23 <<< i)
  rw [hand] at hxor
  have hmove := popcount_xor_le e (1#23 <<< i)
  have hsame : e ^^^ (1#23 <<< i) = g ^^^ (1#23 <<< i) :=
    eq_of_golaySyndrome_eq (by omega) (by omega) (by rw [golaySyndrome_xor, golaySyndrome_xor, h])
  rw [(BitVec.xor_left_inj _).1 hsame] at he
  omega

/-- The table's pattern for three or four errors of the 23 code bits has three ones, and the corrected word odd weight. -/
theorem golayDec24_of_four (d : BitVec 12) (g : BitVec 23) (q : BitVec 1) (hw : popcount g + popcount q = 4) :
    golayDec24 (golayEnc24 d ^^^ (g ++ q)) = none := by
  have hq : popcount q ≤ 1 := (by decide : ∀ q : BitVec 1, popcount q ≤ 1) q
  obtain ⟨e, he⟩ := exists_golayLut_eq_some (golaySyndrome g)
  obtain ⟨hweight, hsyn⟩ := (golayLut_eq_some_iff _ e).1 he
  have hthree : popcount e = 3 := by
    rcases Nat.lt_or_ge (popcount g) 4 with hlt | hge
    · rw [eq_of_golaySyndrome_eq hweight (by omega) hsyn]
      omega
    · exact popcount_eq_three_of_golaySyndrome_eq hweight (by omega) hsyn
  have hodd : popcount (golayEnc24 d ^^^ (g ++ q) ^^^ (e ++ 0#1)) % 2 = 1 := by
    have hcode := popcount_golayEnc24 d
    have h1 := popcount_xor_add (golayEnc24 d) (g ++ q)
    have h2 := popcount_xor_add (golayEnc24 d ^^^ (g ++ q)) (e ++ 0#1)
    have hgq := popcount_append g q
    have he0 := popcount_append e 0#1
    rw [popcount_zero] at he0
    omega
  have hgate : ¬ (popcount e ≤ 2 ∨ popcount (golayEnc24 d ^^^ (g ++ q) ^^^ (e ++ 0#1)) % 2 = 0) := by omega
  rw [golayDec24_of_lut (golaySyndrome_corrupted d g q ▸ he), if_neg hgate]

/-- Settles O29: the corruption is split as for O28. -/
theorem golayReportsFourErrors : Obligations.GolayReportsFourErrors := by
  intro d f s hf
  obtain ⟨g, q, rfl⟩ : ∃ (g : BitVec 23) (q : BitVec 1), f = g ++ q :=
    ⟨f.extractLsb' 1 23, f.extractLsb' 0 1, (BitVec.extractLsb'_append_extractLsb' (w := 23) (len := 1)).symm⟩
  have hw : popcount g + popcount q = 4 := popcount_append g q ▸ hf
  rw [exec_golayDec, golayDec24_of_four d g q hw, golayResponse_none]

end Sys2Proof.Machine

/-! SUPPORT. The command stream and the hard reset (spec/60_exceptions.md rule R322, spec/70_reset_and_hazards.md rule R346):
the step by what stands at the head of the inputs, and the statements about it. -/

namespace Sys2Proof.Machine

open Sys2Proof

/-! ### A step of a core that is not halted -/

theorem pendingWords_of_hardResetDuring (k : Nat) (rest : List HostInput) :
    pendingWords (.hardResetDuring k :: rest) = [] := rfl

theorem decode_nil : decode [] = .incomplete := rfl

section
variable {s : State} {p : Params} {ex : Instr → State → Result}

/-- A word at the head of the inputs: no operation is cut short. -/
theorem stepWith_of_decode_ne (hf : s.faulted = false) (h : decode (pendingWords s.input) ≠ .incomplete) :
    stepWith p ex s = runCommand p ex s := by
  rcases stepWith_cases p ex s with ⟨hf', -⟩ | ⟨-, k, rest, hin, -⟩ | ⟨-, -, hrun⟩
  · rw [hf] at hf'
    exact absurd hf' (by decide)
  · rw [hin, pendingWords_of_hardResetDuring] at h
    exact absurd decode_nil h
  · exact hrun

theorem stepWith_of_instr (hf : s.faulted = false) {i : Instr} {n : Nat}
    (h : decode (pendingWords s.input) = .instr i n) : stepWith p ex s = ex i (s.consume n) := by
  rw [stepWith_of_decode_ne hf (by rw [h]; nofun), runCommand, h]

theorem stepWith_of_reject (hf : s.faulted = false) {c : FaultCause} {w : Word32}
    (h : decode (pendingWords s.input) = .reject c w) :
    stepWith p ex s = .next (takeFault c w (s.consume 1)) := by
  rw [stepWith_of_decode_ne hf (by rw [h]; nofun), runCommand, h]

end

theorem hardReset_m17core (rest : List HostInput) (s : State) :
    s.hardReset m17core rest = { State.reset with input := rest, rsp := s.rsp } := rfl

/-! ### The statements -/

/-- Settles O5: `stepWith_of_instr` for `exec` and for `execFor p`. -/
theorem stepRunsDecodedInstruction : Obligations.StepRunsDecodedInstruction :=
  fun _ _ _ hf h => ⟨stepWith_of_instr hf h, fun _ => stepWith_of_instr hf h⟩

/-- Settles O6: the header of the fault record is that of each cause. -/
theorem rejectedCommandTakesFault : Obligations.RejectedCommandTakesFault := by
  intro s w rest c hf hin h
  have hdecode : decode (pendingWords s.input) = .reject c w := by rw [hin]; exact h
  have hdrop : s.input.drop 1 = rest := by rw [hin]; rfl
  rw [step, stepWith_of_reject hf hdecode, ← hdrop]
  cases c <;> simp [takeFault, append, recordWords, faultCodeOf, State.consume]

/-- Settles O9: a halted core looks only for a hard reset. -/
theorem haltedCoreWaitsForHardReset : Obligations.HaltedCoreWaitsForHardReset := by
  intro s hf
  have hstep : step s = resetOr m17core (.fault .halted) s := if_pos hf
  refine ⟨fun hnone => ?_, fun rest hsome => ?_⟩
  · simp only [hstep, resetOr, hnone]
  · simp only [hstep, resetOr, hsome, hardReset_m17core]

/-- Settles O10: the words are no whole command, so the core waits for what stands behind them. -/
theorem hardResetAbandonsCommand : Obligations.HardResetAbandonsCommand := by
  intro s ws rest hf hin h
  have hpending : pendingWords s.input = ws := by rw [hin, pendingWords_map_word]; exact List.append_nil ws
  have hafter : afterHardReset s.input = some rest := by rw [hin, afterHardReset_map_word]; rfl
  have hnot : ∀ k rest', s.input ≠ .hardResetDuring k :: rest' := by
    intro k rest' heq
    rw [hin] at heq
    cases ws <;> cases heq
  rcases step_cases s with ⟨hf', -⟩ | ⟨-, k, rest', heq, -⟩ | ⟨-, -, hrun⟩
  · rw [hf] at hf'
    exact absurd hf' (by decide)
  · exact absurd heq (hnot k rest')
  · rw [hrun, runCommand, hpending, h]
    simp only [resetOr, hafter, hardReset_m17core]

/-- Settles O15, unit by unit. -/
theorem resetHasInvariant : Obligations.ResetHasInvariant where
  latch := by decide
  encoder := rfl
  scratch := by decide +kernel
  correlator := by decide +kernel
  detectors := by intro w; rw [State.reset_syn]; rfl
  carrier := by decide +kernel
  clock := by decide +kernel
  estimators := rfl
  framer := by decide +kernel
  decoder := by decide
  demodulator := by decide +kernel

/-- Settles O21: each unit reset is its arm. -/
theorem unitResetsCoverTheirUnit : Obligations.UnitResetsCoverTheirUnit :=
  fun s => ⟨exec_crcReset s, rfl, rfl, rfl⟩

end Sys2Proof.Machine

/-! SUPPORT. The convolutional encoder (spec/42_convolutional_puncture.md rules R136 to R139): its memory, the taps of its two
generators, its linearity, and the two statements about it. -/

namespace Sys2Proof.Machine

open Sys2Proof

/-! ### Records -/

/-- Rule R85 for a response without a status: the header as a number. -/
theorem recordWords_ok {op : BitVec 8} {vs : List Word32} {n : Nat} (h : vs.length = n) (hn : n < 2 ^ 16) :
    recordWords op statusOk vs = BitVec.ofNat 32 (op.toNat * 2 ^ 24 + n) :: vs := by
  have hop := op.isLt
  have hheader : op ++ statusOk ++ BitVec.ofNat 16 n = BitVec.ofNat 32 (op.toNat * 2 ^ 24 + n) := by
    apply BitVec.eq_of_toNat_eq
    have hfirst : (op ++ statusOk).toNat = op.toNat * 2 ^ 8 := by
      rw [toNat_append_byte, show statusOk.toNat = 0 from rfl, Nat.add_zero]
    rw [BitVec.toNat_append, hfirst, ← Nat.shiftLeft_add_eq_or_of_lt (BitVec.isLt _), Nat.shiftLeft_eq, BitVec.toNat_ofNat,
      BitVec.toNat_ofNat]
    omega
  rw [recordWords, h, hheader]

/-! ### One step of the encoder -/

theorem convStep_memory (mem : BitVec 4) (b : Bool) : (convStep mem b).2.2 = vitNext mem b := by
  revert mem b
  decide

/-- Rule R137: what the two generators tap. -/
theorem convStep_taps (mem : BitVec 4) (b : Bool) :
    (convStep mem b).1 = (b ^^ mem.getLsbD 2 ^^ mem.getLsbD 3) ∧
      (convStep mem b).2.1 = (b ^^ mem.getLsbD 0 ^^ mem.getLsbD 1 ^^ mem.getLsbD 3) := by
  revert mem b
  decide

theorem vitNext_xor (m m' : BitVec 4) (b b' : Bool) : vitNext (m ^^^ m') (b ^^ b') = vitNext m b ^^^ vitNext m' b' := by
  revert m m' b b'
  decide

theorem getLsbD_vitNext (mem : BitVec 4) (b : Bool) :
    (vitNext mem b).getLsbD 0 = b ∧ (vitNext mem b).getLsbD 1 = mem.getLsbD 0 ∧
      (vitNext mem b).getLsbD 2 = mem.getLsbD 1 ∧ (vitNext mem b).getLsbD 3 = mem.getLsbD 2 := by
  revert mem b
  decide

/-! ### A block -/

theorem convRun_cons (mem : BitVec 4) (b : Bool) (bs : List Bool) :
    convRun mem (b :: bs) =
      ((convStep mem b).1 :: (convStep mem b).2.1 :: (convRun (vitNext mem b) bs).1, (convRun (vitNext mem b) bs).2) := by
  rw [← convStep_memory]
  rfl

@[simp] theorem length_convRun (mem : BitVec 4) (bs : List Bool) : (convRun mem bs).1.length = 2 * bs.length := by
  induction bs generalizing mem with
  | nil => rfl
  | cons b bs ih =>
    rw [convRun_cons, List.length_cons, List.length_cons, ih, List.length_cons]
    omega

/-- The memory after a block is the state of the trellis. -/
theorem convRun_memory (mem : BitVec 4) (bs : List Bool) : (convRun mem bs).2 = bs.foldl vitNext mem := by
  induction bs generalizing mem with
  | nil => rfl
  | cons b bs ih => rw [convRun_cons, ih, List.foldl_cons]

/-- Rule R138: the flush tail clears the memory. -/
theorem convBlock_memory (x : List Bool) : (convBlock x).2 = 0 := by
  rw [convBlock, convRun_memory, List.foldl_append]
  exact (by decide : ∀ m : BitVec 4, (List.replicate Config.CNV_MEM false).foldl vitNext m = 0) _

@[simp] theorem length_convEncode (x : List Bool) : (convEncode x).length = 2 * (x.length + 4) := by
  rw [convEncode, convBlock, length_convRun, List.length_append, List.length_replicate]
  rfl

/-- The input bit `k` steps before step `t` of a block started from memory `mem`. -/
def pastBit (mem : BitVec 4) (bs : List Bool) (t k : Nat) : Bool :=
  if k ≤ t then bs.getD (t - k) false else mem.getLsbD (k - t - 1)

theorem pastBit_succ {mem : BitVec 4} {b : Bool} {bs : List Bool} {t k : Nat} (hk : k ≤ t + 4) :
    pastBit (vitNext mem b) bs t k = pastBit mem (b :: bs) (t + 1) k := by
  unfold pastBit
  rcases Nat.lt_trichotomy k (t + 1) with hlt | heq | hgt
  · rw [if_pos (by omega), if_pos (by omega), show t + 1 - k = t - k + 1 by omega, List.getD_cons_succ]
  · rw [if_neg (by omega), if_pos (by omega), show t + 1 - k = 0 by omega, show k - t - 1 = 0 by omega,
      List.getD_cons_zero, (getLsbD_vitNext mem b).1]
  · rw [if_neg (by omega), if_neg (by omega)]
    obtain ⟨-, h1, h2, h3⟩ := getLsbD_vitNext mem b
    have hj : k - t - 1 = 1 ∨ k - t - 1 = 2 ∨ k - t - 1 = 3 := by omega
    have hj' : k - (t + 1) - 1 = k - t - 1 - 1 := by omega
    rw [hj']
    rcases hj with hj | hj | hj <;> rw [hj] <;> assumption

/-- Rule R137 at step `t` of a block. -/
theorem getD_convRun {mem : BitVec 4} {bs : List Bool} {t : Nat} (ht : t < bs.length) :
    (convRun mem bs).1.getD (2 * t) false = (pastBit mem bs t 0 ^^ pastBit mem bs t 3 ^^ pastBit mem bs t 4) ∧
      (convRun mem bs).1.getD (2 * t + 1) false =
        (pastBit mem bs t 0 ^^ pastBit mem bs t 1 ^^ pastBit mem bs t 2 ^^ pastBit mem bs t 4) := by
  induction bs generalizing mem t with
  | nil => simp at ht
  | cons b bs ih =>
    rw [convRun_cons]
    cases t with
    | zero => simpa [pastBit] using convStep_taps mem b
    | succ t =>
      have hrest := ih (mem := vitNext mem b) (t := t) (by simpa using ht)
      rw [pastBit_succ (by omega), pastBit_succ (by omega), pastBit_succ (by omega), pastBit_succ (by omega),
        pastBit_succ (by omega)] at hrest
      simpa [Nat.mul_succ] using hrest

theorem convStep_xor (m m' : BitVec 4) (b b' : Bool) :
    (convStep (m ^^^ m') (b ^^ b')).1 = ((convStep m b).1 ^^ (convStep m' b').1) ∧
      (convStep (m ^^^ m') (b ^^ b')).2.1 = ((convStep m b).2.1 ^^ (convStep m' b').2.1) := by
  revert m m' b b'
  decide +kernel

/-- Rule R139 (a). -/
theorem convRun_zipWith (m m' : BitVec 4) {as bs : List Bool} (h : as.length = bs.length) :
    (convRun (m ^^^ m') (List.zipWith (· ^^ ·) as bs)).1 =
      List.zipWith (· ^^ ·) (convRun m as).1 (convRun m' bs).1 := by
  induction as generalizing bs m m' with
  | nil => simp [List.length_eq_zero_iff.1 h.symm, convRun]
  | cons a as ih =>
    obtain ⟨b, bs, rfl⟩ := List.exists_cons_of_length_eq_add_one h.symm
    obtain ⟨h0, h1⟩ := convStep_xor m m' a b
    rw [List.zipWith_cons_cons, convRun_cons, convRun_cons, convRun_cons, vitNext_xor, ih _ _ (Nat.succ.inj h), h0, h1]
    rfl

/-! ### The statements -/

/-- Settles O30: the number of words is that of `length_convEncode`, the memory that of `convBlock_memory`. -/
theorem convEncodeFlushesToZero : Obligations.ConvEncodeFlushesToZero := by
  intro x s hx
  refine ⟨?_, length_convEncode x⟩
  have hwords : (packBits (convEncode x)).length = (x.length + 4 + 15) / 16 := by
    rw [packBits_length, length_convEncode]
    omega
  have hexec : exec (.convEnc x) s =
      .next (respond 0x30 statusOk (packBits (convEncode x)) { s with cnvMem := (convBlock x).2 }) :=
    if_pos (decide_eq_true hx)
  have hheader : BitVec.ofNat 32 ((0x30 : BitVec 8).toNat * 2 ^ 24 + (x.length + 4 + 15) / 16) =
      0x30000000 + BitVec.ofNat 32 ((x.length + 4 + 15) / 16) := by
    rw [BitVec.ofNat_add]
    rfl
  rw [hexec, convBlock_memory, ← hheader, ← recordWords_ok hwords (by omega)]
  rfl

/-- Settles O31: the bits before the block are those of an empty memory, the bits after it those of the flush tail. -/
theorem convOutputsFollowGenerators : Obligations.ConvOutputsFollowGenerators := by
  refine ⟨?taps, ?linear⟩
  case taps =>
    intro x t ht past
    have hpast (k : Nat) : pastBit 0 (x ++ List.replicate Config.CNV_MEM false) t k = past k := by
      unfold pastBit
      split
      case isTrue hk =>
        rw [show past k = x.getD (t - k) false from if_pos hk]
        rcases Nat.lt_or_ge (t - k) x.length with hin | hout
        · rw [List.getD_append _ _ _ _ hin]
        · rw [List.getD_append_right _ _ _ _ hout, List.getD_eq_default _ _ hout]
          simp
      case isFalse hk => exact BitVec.getLsbD_zero.trans (if_neg hk).symm
    have htaps := getD_convRun (mem := 0) (bs := x ++ List.replicate Config.CNV_MEM false) (t := t)
      (by rw [List.length_append, List.length_replicate]; exact ht)
    simp only [hpast] at htaps
    exact htaps
  case linear =>
    intro a b h
    have htail : List.replicate Config.CNV_MEM false =
        List.zipWith (· ^^ ·) (List.replicate Config.CNV_MEM false) (List.replicate Config.CNV_MEM false) := rfl
    rw [convEncode, convBlock, htail, ← List.zipWith_append h]
    exact convRun_zipWith 0 0 (by simp [h])

end Sys2Proof.Machine

/-! SUPPORT. The Viterbi decoder (spec/43_viterbi.md rules R156 to R167): the trellis, one step as a choice between two paths,
the survivors as paths, the chainback, the least metric, and the statements about a decode. -/

namespace Sys2Proof.Machine

open Sys2Proof

/-! ### The trellis -/

/-- The state `ns` is entered from its two predecessors by its own lowest bit. -/
theorem vitNext_vitPrev (ns : BitVec 4) (d : Bool) : vitNext (vitPrev ns d) (ns.getLsbD 0) = ns := by
  revert ns d
  decide

/-- Every state is a predecessor of its successors. -/
theorem vitPrev_vitNext (ps : BitVec 4) (b : Bool) :
    vitPrev (vitNext ps b) (ps.getLsbD 3) = ps ∧ (vitNext ps b).getLsbD 0 = b := by
  revert ps b
  decide

theorem getD_vitStates_map {α : Type} (f : BitVec 4 → α) (d : α) (s : BitVec 4) :
    (vitStates.map f).getD s.toNat d = f s := by
  have hs : s.toNat < 16 := s.isLt
  simp [vitStates, hs]

theorem mem_vitStates (s : BitVec 4) : s ∈ vitStates :=
  List.mem_map.2 ⟨s.toNat, List.mem_range.2 s.isLt, by simp⟩

/-! ### One step -/

section
variable (pm : List Nat) (l0 l1 : Llr)

theorem getD_acsStep_row (ns : BitVec 4) : (acsStep pm l0 l1).2.getD ns.toNat false = selectD pm l0 l1 ns :=
  getD_vitStates_map _ _ ns

theorem getD_acsStep_metric (ns : BitVec 4) :
    (acsStep pm l0 l1).1.getD ns.toNat 0 = pathMetric pm ns (selectD pm l0 l1 ns) l0 l1 :=
  getD_vitStates_map (fun ns => pathMetric pm ns (selectD pm l0 l1 ns) l0 l1) 0 ns

/-- Rule R160: of the two paths into a state the cheaper one is kept. -/
theorem acsStep_le (ns : BitVec 4) (d : Bool) :
    (acsStep pm l0 l1).1.getD ns.toNat 0 ≤ pathMetric pm ns d l0 l1 := by
  rw [getD_acsStep_metric, selectD]
  by_cases hlt : pathMetric pm ns true l0 l1 < pathMetric pm ns false l0 l1
  · rw [decide_eq_true hlt]
    cases d
    · exact hlt.le
    · exact le_rfl
  · rw [decide_eq_false hlt]
    cases d
    · exact le_rfl
    · exact not_lt.1 hlt

end

/-! ### All steps of a block -/

/-- The state a path ends in. -/
def pathEnd (ps : BitVec 4) (bs : List Bool) : BitVec 4 :=
  bs.foldl vitNext ps

/-- No path into a state is cheaper than the survivor. -/
theorem acsRun_le {l : List Llr} {bs : List Bool} (hlen : l.length = 2 * bs.length) (pm : List Nat) (ps : BitVec 4) :
    (acsRun pm l).1.getD (pathEnd ps bs).toNat 0 ≤ pm.getD ps.toNat 0 + pathMetricOf ps bs l := by
  induction bs generalizing l pm ps with
  | nil =>
    rw [List.length_eq_zero_iff.1 hlen]
    exact le_rfl
  | cons b bs ih =>
    match l, hlen with
    | l0 :: l1 :: ls, hlen =>
      have hls : ls.length = 2 * bs.length := by simp only [List.length_cons] at hlen; omega
      have hstep := acsStep_le pm l0 l1 (vitNext ps b) (ps.getLsbD 3)
      obtain ⟨hprev, hbit⟩ := vitPrev_vitNext ps b
      rw [pathMetric, hprev, hbit] at hstep
      calc (acsRun pm (l0 :: l1 :: ls)).1.getD (pathEnd ps (b :: bs)).toNat 0
          ≤ (acsStep pm l0 l1).1.getD (vitNext ps b).toNat 0 + pathMetricOf (vitNext ps b) bs ls :=
            ih hls _ _
        _ ≤ _ := by
            rw [pathMetricOf]
            omega

/-- The path that the rows of the history give for the final state `s`: its first state and its bits. -/
def survivor : List (List Bool) → BitVec 4 → BitVec 4 × List Bool
  | [], s => (s, [])
  | row :: rows, s =>
    let rest := survivor rows s
    (vitPrev rest.1 (row.getD rest.1.toNat false), rest.1.getLsbD 0 :: rest.2)

/-- The chainback of rule R164, which runs from the last row to the first, collects the survivor. -/
theorem chainBack_reverse_append (rows tail : List (List Bool)) (s : BitVec 4) (acc : List Bool) :
    chainBack (rows.reverse ++ tail) s acc = chainBack tail (survivor rows s).1 ((survivor rows s).2 ++ acc) := by
  induction rows generalizing tail with
  | nil => rfl
  | cons row rows ih =>
    rw [List.reverse_cons, List.append_assoc, ih]
    rfl

theorem chainBack_reverse (rows : List (List Bool)) (s : BitVec 4) :
    chainBack rows.reverse s [] = (survivor rows s).2 := by
  have h := chainBack_reverse_append rows [] s []
  rwa [List.append_nil, List.append_nil] at h

@[simp] theorem length_survivor (rows : List (List Bool)) (s : BitVec 4) :
    (survivor rows s).2.length = rows.length := by
  induction rows with
  | nil => rfl
  | cons row rows ih => rw [survivor, List.length_cons, ih, List.length_cons]

theorem acsRun_cons (pm : List Nat) (l0 l1 : Llr) (ls : List Llr) :
    acsRun pm (l0 :: l1 :: ls) =
      ((acsRun (acsStep pm l0 l1).1 ls).1, (acsStep pm l0 l1).2 :: (acsRun (acsStep pm l0 l1).1 ls).2) := rfl

theorem length_acsRun_rows {l : List Llr} {n : Nat} (hlen : l.length = 2 * n) (pm : List Nat) :
    (acsRun pm l).2.length = n := by
  induction n generalizing pm l with
  | zero =>
    rw [List.length_eq_zero_iff.1 hlen]
    rfl
  | succ n ih =>
    match l, hlen with
    | l0 :: l1 :: ls, hlen =>
      have hls : ls.length = 2 * n := by simp only [List.length_cons] at hlen; omega
      rw [acsRun_cons, List.length_cons, ih hls]

/-- The survivor is a path into its state and has the metric the state holds. -/
theorem acsRun_survivor (pm : List Nat) (l : List Llr) (s : BitVec 4) (n : Nat) (hlen : l.length = 2 * n) :
    pathEnd (survivor (acsRun pm l).2 s).1 (survivor (acsRun pm l).2 s).2 = s ∧
      (acsRun pm l).1.getD s.toNat 0 =
        pm.getD (survivor (acsRun pm l).2 s).1.toNat 0 +
          pathMetricOf (survivor (acsRun pm l).2 s).1 (survivor (acsRun pm l).2 s).2 l := by
  induction n generalizing pm l with
  | zero =>
    rw [List.length_eq_zero_iff.1 hlen]
    exact ⟨rfl, rfl⟩
  | succ n ih =>
    match l, hlen with
    | l0 :: l1 :: ls, hlen =>
      have hls : ls.length = 2 * n := by simp only [List.length_cons] at hlen; omega
      obtain ⟨hend, hmetric⟩ := ih (acsStep pm l0 l1).1 ls hls
      rw [acsRun_cons, survivor]
      generalize survivor (acsRun (acsStep pm l0 l1).1 ls).2 s = path at hend hmetric ⊢
      obtain ⟨m, bs⟩ := path
      rw [getD_acsStep_metric, pathMetric] at hmetric
      refine ⟨?_, ?_⟩
      · rw [pathEnd, List.foldl_cons, vitNext_vitPrev]
        exact hend
      · rw [pathMetricOf, vitNext_vitPrev, getD_acsStep_row, hmetric, Nat.add_assoc]

/-! ### The costs of a branch and of a path -/

theorem natAbs_soft (b : Bool) : (soft b).natAbs = 7 := by
  cases b <;> rfl

theorem halfCost_le (b : Bool) {l : Llr} (hl : l.natAbs ≤ 7) : halfCost (soft b) l ≤ 14 := by
  have hb := natAbs_soft b
  rw [halfCost]
  split <;> omega

theorem branchCost_le (ps : BitVec 4) (b : Bool) {l0 l1 : Llr} (h0 : l0.natAbs ≤ 7) (h1 : l1.natAbs ≤ 7) :
    branchCost ps b l0 l1 ≤ 28 :=
  Nat.add_le_add (halfCost_le _ h0) (halfCost_le _ h1)

theorem pathMetricOf_le {l : List Llr} (hl : LlrList l) (bs : List Bool) (ps : BitVec 4) :
    pathMetricOf ps bs l ≤ 28 * bs.length := by
  induction bs generalizing l ps with
  | nil => exact Nat.zero_le _
  | cons b bs ih =>
    match l with
    | [] | [_] => exact Nat.zero_le _
    | l0 :: l1 :: ls =>
      have hbranch := branchCost_le ps b (hl l0 (by simp)) (hl l1 (by simp))
      have hrest := ih (l := ls) (fun v hv => hl v (by simp [hv])) (vitNext ps b)
      rw [pathMetricOf, List.length_cons]
      omega

/-! ### The state of least metric -/

/-- Rule R163, over the states still to visit: the state kept has a metric no greater than any of them and than the one kept
before, and a state is given up only for a smaller metric. -/
theorem foldl_best (pm : List Nat) (states : List (BitVec 4)) (best : BitVec 4) :
    let chosen := states.foldl (fun best s => if pm.getD s.toNat 0 < pm.getD best.toNat 0 then s else best) best
    pm.getD chosen.toNat 0 ≤ pm.getD best.toNat 0 ∧ (∀ s ∈ states, pm.getD chosen.toNat 0 ≤ pm.getD s.toNat 0) ∧
      (pm.getD best.toNat 0 = 0 → chosen = best) := by
  induction states generalizing best with
  | nil => exact ⟨le_rfl, by simp, fun _ => rfl⟩
  | cons s states ih =>
    rw [List.foldl_cons]
    split
    case isTrue hlt =>
      obtain ⟨hle, hall, -⟩ := ih s
      exact ⟨hle.trans hlt.le, List.forall_mem_cons.2 ⟨hle, hall⟩, fun hzero => by omega⟩
    case isFalse hge =>
      obtain ⟨hle, hall, hzero⟩ := ih best
      exact ⟨hle, List.forall_mem_cons.2 ⟨hle.trans (not_lt.1 hge), hall⟩, hzero⟩

theorem bestState_le (pm : List Nat) (s : BitVec 4) :
    pm.getD (bestState pm).toNat 0 ≤ pm.getD s.toNat 0 :=
  (foldl_best pm vitStates 0).2.1 s (mem_vitStates s)

/-- The lowest index wins a tie: state 0 when nothing is below its metric. -/
theorem bestState_eq_zero {pm : List Nat} (h : pm.getD 0 0 = 0) : bestState pm = 0 :=
  (foldl_best pm vitStates 0).2.2 h

/-! ### A decode -/

theorem getD_vitInit_zero : vitInit.getD (0 : BitVec 4).toNat 0 = 0 := rfl

/-- Rule R158: only state 0 is reachable at the start. -/
theorem getD_vitInit_of_ne {s : BitVec 4} (h : s ≠ 0) : vitInit.getD s.toNat 0 = 2 ^ 30 - 1 := by
  revert s
  decide

/-- The decoded path before it is cut to the requested length. -/
def decodedPath (l : List Llr) : List Bool :=
  (survivor (acsRun vitInit l).2 (bestState (acsRun vitInit l).1)).2

theorem viterbi_bits (l : List Llr) (n : Nat) : (viterbi l n).bits = (decodedPath l).take n := by
  rw [decodedPath, ← chainBack_reverse]
  rfl

theorem viterbi_cost (l : List Llr) (n : Nat) : (viterbi l n).cost = (2 * (viterbi l n).minMetric + 7) / 14 := rfl

section
variable {l : List Llr} {n : Nat} (hlen : l.length = 2 * n)
include hlen

theorem length_decodedPath : (decodedPath l).length = n := by
  rw [decodedPath, length_survivor, length_acsRun_rows hlen]

theorem length_viterbi_bits {k : Nat} (hk : k ≤ n) : (viterbi l k).bits.length = k := by
  rw [viterbi_bits, List.length_take_of_le (by rwa [length_decodedPath hlen])]

theorem length_viterbi_rows (k : Nat) : (viterbi l k).rows.length = n :=
  length_acsRun_rows hlen vitInit

/-- Rule R167 (a): no path from state 0 has a smaller metric. -/
theorem minMetric_le {bs : List Bool} (hbs : bs.length = n) (k : Nat) :
    (viterbi l k).minMetric ≤ pathMetricOf 0 bs l := by
  calc (viterbi l k).minMetric
      ≤ (acsRun vitInit l).1.getD (pathEnd 0 bs).toNat 0 := bestState_le _ _
    _ ≤ vitInit.getD (0 : BitVec 4).toNat 0 + pathMetricOf 0 bs l := acsRun_le (hbs ▸ hlen) vitInit 0
    _ = pathMetricOf 0 bs l := by rw [getD_vitInit_zero, Nat.zero_add]

section
variable (hl : LlrList l)
include hl

theorem minMetric_le_mul (k : Nat) : (viterbi l k).minMetric ≤ 28 * n := by
  have hzeros : (List.replicate n false).length = n := List.length_replicate
  have hpath := pathMetricOf_le hl (List.replicate n false) 0
  rw [hzeros] at hpath
  exact (minMetric_le hlen hzeros k).trans hpath

/-- Rule R165: at most 976 for the 244 steps of the longest block. -/
theorem viterbi_cost_le (hn : n ≤ 244) (k : Nat) : (viterbi l k).cost ≤ 976 := by
  have hmetric := minMetric_le_mul hlen hl k
  rw [viterbi_cost]
  omega

/-- The decoded path starts in state 0, since any other start costs more than a whole block. -/
theorem pathMetricOf_decodedPath (hn : n ≤ 244) (k : Nat) :
    pathMetricOf 0 (decodedPath l) l = (viterbi l k).minMetric := by
  obtain ⟨-, hmetric⟩ := acsRun_survivor vitInit l (bestState (acsRun vitInit l).1) n hlen
  have hle := minMetric_le_mul hlen hl k
  have hmin : (viterbi l k).minMetric = (acsRun vitInit l).1.getD (bestState (acsRun vitInit l).1).toNat 0 := rfl
  have hstart : (survivor (acsRun vitInit l).2 (bestState (acsRun vitInit l).1)).1 = 0 := by
    by_contra hne
    rw [getD_vitInit_of_ne hne] at hmetric
    omega
  rw [hstart, getD_vitInit_zero, Nat.zero_add] at hmetric
  exact hmetric.symm.trans hmin.symm

end

end

/-- Settles O35: the path is `decodedPath`, uncut. -/
theorem viterbiPathIsOptimal : Obligations.ViterbiPathIsOptimal := by
  intro l n hl hlen _ hn
  have hbits : (viterbi l n).bits = decodedPath l := by
    rw [viterbi_bits, List.take_of_length_le (length_decodedPath hlen).le]
  refine ⟨length_viterbi_bits hlen le_rfl, ?_, fun bs hbs => minMetric_le hlen hbs n⟩
  rw [hbits, pathMetricOf_decodedPath hlen hl hn n]

/-! ### A codeword received -/

/-- What the received LLRs of a list of coded bits cost. -/
def receivedCost (c : List Bool) (l : List Llr) : Nat :=
  ((c.zip l).map fun p => halfCost (soft p.1) p.2).sum

/-- The metric of a path is the cost of its coded bits. -/
theorem pathMetricOf_eq_receivedCost {bs : List Bool} {l : List Llr} (hlen : l.length = 2 * bs.length) (ps : BitVec 4) :
    pathMetricOf ps bs l = receivedCost (convRun ps bs).1 l := by
  induction bs generalizing l ps with
  | nil => rfl
  | cons b bs ih =>
    match l, hlen with
    | l0 :: l1 :: ls, hlen =>
      have hls : ls.length = 2 * bs.length := by simp only [List.length_cons] at hlen; omega
      rw [pathMetricOf, ih hls, convRun_cons]
      simp only [receivedCost, List.zip_cons_cons, List.map_cons, List.sum_cons, branchCost, vitExp, Nat.add_assoc]

theorem halfCost_soft_self (b : Bool) : halfCost (soft b) (soft b) = 0 := by
  cases b <;> rfl

theorem halfCost_zero (e : Llr) : halfCost e 0 = 0 := rfl

theorem halfCost_neg_soft (b : Bool) : halfCost (soft b) (-soft b) = 14 := by
  cases b <;> rfl

/-- Rule R167 (d): a sign error costs 14, a right bit and an erasure nothing. -/
theorem receivedCost_eq_of_signErrors {c : List Bool} {l : List Llr}
    (h : ∀ p ∈ c.zip l, p.2 = soft p.1 ∨ p.2 = 0 ∨ p.2 = -soft p.1) :
    receivedCost c l = 14 * ((c.zip l).filter fun p => p.2 = -soft p.1).length := by
  rw [receivedCost]
  generalize c.zip l = ps at h ⊢
  induction ps with
  | nil => rfl
  | cons p ps ih =>
    obtain ⟨hp, hps⟩ := List.forall_mem_cons.1 h
    rw [List.map_cons, List.sum_cons, ih hps, List.filter_cons]
    have hne : (soft p.1 : Llr) ≠ -soft p.1 ∧ (0 : Llr) ≠ -soft p.1 := by cases p.1 <;> decide
    rcases hp with hp | hp | hp <;> rw [hp]
    · rw [halfCost_soft_self, if_neg (by simpa using hne.1), Nat.zero_add]
    · rw [halfCost_zero, if_neg (by simpa using hne.2), Nat.zero_add]
    · rw [halfCost_neg_soft, if_pos (by simp), List.length_cons]
      omega

/-- The block that the encoder codes: the data and the flush tail (rule R138). -/
def flushed (x : List Bool) : List Bool :=
  x ++ List.replicate Config.CNV_MEM false

@[simp] theorem length_flushed (x : List Bool) : (flushed x).length = x.length + 4 := by
  rw [flushed, List.length_append, List.length_replicate]
  rfl

theorem convEncode_eq (x : List Bool) : convEncode x = (convRun 0 (flushed x)).1 := rfl

/-- Settles O37: the metric of the path that was sent bounds the least one. -/
theorem viterbiCostBoundsSignErrors : Obligations.ViterbiCostBoundsSignErrors := by
  intro x l k nOut _ hlen hp hk
  have hlen' : l.length = 2 * (flushed x).length := by rw [hlen, length_convEncode, length_flushed]
  have hmetric : (viterbi l nOut).minMetric ≤ 14 * k := by
    calc (viterbi l nOut).minMetric
        ≤ pathMetricOf 0 (flushed x) l := minMetric_le hlen' rfl nOut
      _ = receivedCost (convEncode x) l := pathMetricOf_eq_receivedCost hlen' 0
      _ = 14 * (((convEncode x).zip l).filter fun p => p.2 = -soft p.1).length := receivedCost_eq_of_signErrors hp
      _ ≤ 14 * k := Nat.mul_le_mul_left 14 hk
  refine ⟨hmetric, ?_⟩
  rw [viterbi_cost]
  omega

theorem receivedCost_map_soft (c : List Bool) : receivedCost c (c.map soft) = 0 := by
  induction c with
  | nil => rfl
  | cons b c ih =>
    rw [receivedCost] at ih ⊢
    rw [List.map_cons, List.zip_cons_cons, List.map_cons, List.sum_cons, ih, halfCost_soft_self]

theorem llrList_map_soft (c : List Bool) : LlrList (c.map soft) := by
  intro v hv
  obtain ⟨b, -, rfl⟩ := List.mem_map.1 hv
  exact (natAbs_soft b).le

/-- Both generators tap the input bit, so a wrong bit costs. -/
theorem eq_of_branchCost_eq_zero (ps : BitVec 4) (b c : Bool) :
    branchCost ps b (soft (convStep ps c).1) (soft (convStep ps c).2.1) = 0 → b = c := by
  revert ps b c
  decide

/-- A codeword costs nothing on its own path only. -/
theorem eq_of_pathMetricOf_eq_zero {bs cs : List Bool} (hlen : bs.length = cs.length) (ps : BitVec 4)
    (h : pathMetricOf ps bs ((convRun ps cs).1.map soft) = 0) : bs = cs := by
  induction bs generalizing cs ps with
  | nil => exact (List.length_eq_zero_iff.1 hlen.symm).symm
  | cons b bs ih =>
    obtain ⟨c, cs, rfl⟩ := List.exists_cons_of_length_eq_add_one hlen.symm
    rw [convRun_cons, List.map_cons, List.map_cons, pathMetricOf, Nat.add_eq_zero_iff] at h
    obtain rfl := eq_of_branchCost_eq_zero ps b c h.1
    rw [ih (Nat.succ.inj hlen) _ h.2]

section
variable {x : List Bool} (hx : x.length ≤ 240)

theorem length_received (x : List Bool) : ((convEncode x).map soft).length = 2 * (flushed x).length := by
  rw [List.length_map, length_convEncode, length_flushed]

theorem pathMetricOf_flushed (x : List Bool) : pathMetricOf 0 (flushed x) ((convEncode x).map soft) = 0 := by
  rw [pathMetricOf_eq_receivedCost (length_received x), ← convEncode_eq, receivedCost_map_soft]

theorem minMetric_received (x : List Bool) (k : Nat) : (viterbi ((convEncode x).map soft) k).minMetric = 0 :=
  Nat.le_zero.1 ((minMetric_le (length_received x) rfl k).trans_eq (pathMetricOf_flushed x))

include hx in
/-- Rule R167 (b): the path decoded from a codeword is the block that was coded. -/
theorem decodedPath_received : decodedPath ((convEncode x).map soft) = flushed x := by
  refine eq_of_pathMetricOf_eq_zero (length_decodedPath (length_received x)) 0 ?_
  rw [← convEncode_eq, pathMetricOf_decodedPath (length_received x) (llrList_map_soft _) ?_ 0, minMetric_received]
  rw [length_flushed]
  omega

end

/-- Settles O36: the flush tail ends the sent path in state 0. -/
theorem viterbiDecodesCleanCodeword : Obligations.ViterbiDecodesCleanCodeword := by
  intro x hx l
  refine ⟨minMetric_received x _, ?cost, ?bits, ?final⟩
  case cost => rw [viterbi_cost, minMetric_received]
  case bits => rw [viterbi_bits, decodedPath_received hx, flushed, List.take_left]
  case final =>
    have hend : pathEnd 0 (flushed x) = 0 := (convRun_memory 0 (flushed x)).symm.trans (convBlock_memory x)
    have hle := acsRun_le (length_received x) vitInit 0
    rw [hend, getD_vitInit_zero, pathMetricOf_flushed] at hle
    exact bestState_eq_zero (Nat.le_zero.1 hle)

/-! ### VIT_DECODE -/

theorem llrList_map_toInt {bytes : List Byte} (h : ∀ b ∈ bytes, inLlrRange b) : LlrList (bytes.map fun b => b.toInt) := by
  intro v hv
  obtain ⟨b, hb, rfl⟩ := List.mem_map.1 hv
  have hrange := h b hb
  change (b.toInt).natAbs ≤ 7
  omega

theorem exec_vitDecode {nOut : BitVec 10} {l : List Byte} (hwf : vitCountsOk l.length nOut.toNat = true)
    (h : ∀ b ∈ l, inLlrRange b) (s : State) :
    let o := viterbi (l.map fun b => b.toInt) nOut.toNat
    exec (.vitDecode nOut l) s =
      .next (respond 0x40 statusOk (BitVec.ofNat 32 o.cost :: packBits o.bits) { s with vit := s.vit.after o }) := by
  have hwf' : (Instr.vitDecode nOut l).wellFormed = true := hwf
  simp only [exec, execVitDecode, if_pos hwf', llrsOf_of_inRange h]

/-- Settles O34: the bound on the cost is `viterbi_cost_le`. -/
theorem vitDecodeChangesOnlyScratch : Obligations.VitDecodeChangesOnlyScratch := by
  intro nOut l h2 heven h488 hout hrange v
  have hlen : (l.map fun b => b.toInt).length = 2 * (l.length / 2) := by rw [List.length_map]; omega
  have hwf : vitCountsOk l.length nOut.toNat = true := by
    simp only [vitCountsOk, Bool.and_eq_true, decide_eq_true_eq, beq_iff_eq]
    simp only [Config.MAX_CODED]
    omega
  exact ⟨viterbi_cost_le hlen (llrList_map_toInt hrange) (by omega) _, rfl, length_viterbi_bits hlen (by omega),
    fun s => ⟨_, exec_vitDecode hwf hrange s⟩⟩

end Sys2Proof.Machine

/-! SUPPORT. Puncturing, depuncturing and the LLR map (spec/42_convolutional_puncture.md rules R141 to R146): which positions a
mask keeps, the two transforms element by element, what the three operations answer, and the two statements about them. -/

namespace Sys2Proof.Machine

open Sys2Proof

/-! ### The positions a mask keeps -/

/-- The mask, applied cyclically, has a 1 at position `i`. -/
def keptAt (m : List Bool) (i : Nat) : Bool :=
  m.getD (i % m.length) false

/-- How many of the `n` positions from `j` on are kept. -/
def keptCount (m : List Bool) (j n : Nat) : Nat :=
  ((List.range n).filter fun i => keptAt m (j + i)).length

@[simp] theorem keptCount_zero (m : List Bool) (j : Nat) : keptCount m j 0 = 0 := rfl

/-- The positions from `j + 1` on are those from `j` on but for the first. -/
theorem filter_range_succ (f : Nat → Bool) (n : Nat) :
    (List.range (n + 1)).filter f = (if f 0 then [0] else []) ++ ((List.range n).filter fun i => f (i + 1)).map (· + 1) := by
  rw [List.range_succ_eq_map, List.filter_cons, List.filter_map]
  cases f 0 <;> rfl

theorem keptCount_succ (m : List Bool) (j n : Nat) :
    keptCount m j (n + 1) = (if keptAt m j then 1 else 0) + keptCount m (j + 1) n := by
  have hshift : (fun i => keptAt m (j + (i + 1))) = fun i => keptAt m (j + 1 + i) :=
    funext fun i => by rw [Nat.add_assoc, Nat.add_comm 1 i]
  rw [keptCount, filter_range_succ, List.length_append, List.length_map, hshift, keptCount, Nat.add_zero]
  cases keptAt m j <;> rfl

theorem keptCount_succ_last (m : List Bool) (n : Nat) :
    keptCount m 0 (n + 1) = keptCount m 0 n + if keptAt m n then 1 else 0 := by
  rw [keptCount, List.range_succ, List.filter_append, List.length_append, keptCount, List.filter_singleton, Nat.zero_add]
  cases keptAt m n <;> rfl

theorem keptCount_le_of_le (m : List Bool) {i n : Nat} (h : i ≤ n) : keptCount m 0 i ≤ keptCount m 0 n := by
  induction h with
  | refl => exact le_rfl
  | step _ ih => exact ih.trans (by rw [keptCount_succ_last]; omega)

/-- The kept position `i` is the one after the kept positions before it. -/
theorem getD_filter_range (m : List Bool) {i n : Nat} (hi : i < n) (hkept : keptAt m i = true) (d : Nat) :
    ((List.range n).filter (keptAt m)).getD (keptCount m 0 i) d = i := by
  obtain ⟨k, rfl⟩ : ∃ k, n = i + (k + 1) := ⟨n - i - 1, by omega⟩
  have hcount : keptCount m 0 i = ((List.range i).filter (keptAt m)).length := by
    simp only [keptCount, Nat.zero_add]
  rw [List.range_add, List.filter_append, hcount, List.getD_append_right _ _ _ _ le_rfl, Nat.sub_self,
    List.range_succ_eq_map, List.map_cons, List.filter_cons_of_pos (by simpa using hkept), List.getD_cons_zero,
    Nat.add_zero]

/-! ### Puncturing -/

theorem nextMaskPos (m : List Bool) (j : Nat) : (j % m.length + 1) % m.length = (j + 1) % m.length :=
  Nat.mod_add_mod j m.length 1

/-- Rule R141 from mask position `j` on. -/
theorem punctureFrom_eq (xs m : List Bool) (j cap : Nat) :
    punctureFrom m (j % m.length) cap xs =
      (((List.range xs.length).filter fun i => keptAt m (j + i)).map fun i => xs.getD i false).take cap := by
  induction xs generalizing j cap with
  | nil => cases cap <;> rfl
  | cons x xs ih =>
    cases cap with
    | zero => rfl
    | succ cap =>
      have hrest : ((List.range xs.length).filter fun i => keptAt m (j + (i + 1))) =
          (List.range xs.length).filter fun i => keptAt m (j + 1 + i) :=
        List.filter_congr fun i _ => by rw [Nat.add_assoc, Nat.add_comm 1 i]
      rw [punctureFrom, nextMaskPos, ih, ih, List.length_cons, filter_range_succ, hrest, List.map_append, List.map_map,
        Nat.add_zero]
      rw [show m.getD (j % m.length) false = keptAt m j from rfl]
      cases keptAt m j <;> simp [Function.comp_def]

theorem puncture_eq (xs m : List Bool) (cap : Nat) :
    puncture xs m cap = (((List.range xs.length).filter (keptAt m)).map fun i => xs.getD i false).take cap := by
  have h := punctureFrom_eq xs m 0 cap
  simp only [Nat.zero_mod, Nat.zero_add] at h
  exact h

theorem length_puncture (xs m : List Bool) (cap : Nat) :
    (puncture xs m cap).length = min cap (keptCount m 0 xs.length) := by
  rw [puncture_eq, List.length_take, List.length_map, keptCount]
  simp only [Nat.zero_add]

theorem sublist_punctureFrom {α : Type} (m : List Bool) (p cap : Nat) (xs : List α) :
    (punctureFrom m p cap xs).Sublist xs := by
  induction xs generalizing p cap with
  | nil => cases cap <;> exact List.Sublist.refl _
  | cons x xs ih =>
    cases cap with
    | zero => exact List.nil_sublist _
    | succ cap =>
      rw [punctureFrom]
      split
      · exact (ih _ _).cons_cons x
      · exact (ih _ _).cons x

/-- The kept bit of position `i`, where the capacity still holds it. -/
theorem getD_puncture {xs m : List Bool} {i : Nat} (hi : i < xs.length) (hkept : keptAt m i = true) (cap : Nat) :
    (puncture xs m cap).getD (keptCount m 0 i) false =
      if keptCount m 0 i < cap then xs.getD i false else false := by
  rw [puncture_eq]
  split
  case isTrue hlt =>
    have hdefault : xs.getD xs.length false = false := List.getD_eq_default _ _ le_rfl
    have hmap := List.getD_map (n := keptCount m 0 i) ((List.range xs.length).filter (keptAt m)) xs.length
      fun i => xs.getD i false
    rw [getD_filter_range m hi hkept, hdefault] at hmap
    rw [← hmap, List.getD_eq_getElem?_getD, List.getD_eq_getElem?_getD, List.getElem?_take_of_lt hlt]
  case isFalse hge =>
    exact List.getD_eq_default _ _ ((List.length_take_le _ _).trans (not_lt.1 hge))

/-! ### Depuncturing -/

@[simp] theorem length_depunctureFrom {α : Type} (e : α) (m : List Bool) (p n : Nat) (ys : List α) :
    (depunctureFrom e m p n ys).length = n := by
  induction n generalizing p ys with
  | zero => cases ys <;> rfl
  | succ n ih =>
    cases ys with
    | nil => rw [depunctureFrom, List.length_cons, ih]
    | cons y ys =>
      rw [depunctureFrom]
      split <;> rw [List.length_cons, ih]

@[simp] theorem length_depuncture (ys : List Llr) (m : List Bool) (n : Nat) : (depuncture ys m n).length = n :=
  length_depunctureFrom _ _ _ _ _

/-- Rule R142 from mask position `j` on. -/
theorem getD_depunctureFrom (m : List Bool) (j : Nat) {i n : Nat} (hi : i < n) (ys : List Llr) :
    (depunctureFrom 0 m (j % m.length) n ys).getD i 0 =
      if keptAt m (j + i) then ys.getD (keptCount m j i) 0 else 0 := by
  induction n generalizing j i ys with
  | zero => exact absurd hi (Nat.not_lt_zero i)
  | succ n ih =>
    have hmask : m.getD (j % m.length) false = keptAt m j := rfl
    cases ys with
    | nil =>
      rw [depunctureFrom, nextMaskPos]
      cases i with
      | zero => simp
      | succ i => simpa using ih (j + 1) (by omega) []
    | cons y ys =>
      rw [depunctureFrom, nextMaskPos, hmask]
      cases i with
      | zero => cases keptAt m j <;> simp
      | succ i =>
        have hpos : j + (i + 1) = j + 1 + i := by omega
        rw [keptCount_succ, hpos]
        cases keptAt m j
        · simpa using ih (j + 1) (by omega) (y :: ys)
        · simpa [Nat.add_comm 1] using ih (j + 1) (by omega) ys

theorem getD_depuncture (ys : List Llr) (m : List Bool) {i n : Nat} (hi : i < n) :
    (depuncture ys m n).getD i 0 = if keptAt m i then ys.getD (keptCount m 0 i) 0 else 0 := by
  have h := getD_depunctureFrom m 0 hi ys
  rwa [Nat.zero_mod, Nat.zero_add] at h

theorem depunctureFrom_mem {α : Type} {e v : α} (m : List Bool) (p n : Nat) (ys : List α)
    (h : v ∈ depunctureFrom e m p n ys) : v = e ∨ v ∈ ys := by
  induction n generalizing p ys with
  | zero => cases ys <;> exact absurd h List.not_mem_nil
  | succ n ih =>
    cases ys with
    | nil =>
      rw [depunctureFrom, List.mem_cons] at h
      exact h.elim .inl (ih _ _)
    | cons y ys =>
      rw [depunctureFrom] at h
      split at h <;> rcases List.mem_cons.1 h with rfl | hrest
      · exact .inr List.mem_cons_self
      · exact (ih _ _ hrest).imp_right (List.mem_cons_of_mem y)
      · exact .inl rfl
      · exact ih _ _ hrest

theorem llrList_depuncture {ys : List Llr} (h : LlrList ys) (m : List Bool) (n : Nat) : LlrList (depuncture ys m n) := by
  intro v hv
  rcases depunctureFrom_mem m 0 n ys hv with rfl | hmem
  · exact Nat.zero_le _
  · exact h v hmem

/-! ### One undoes the other -/

/-- Rule R143, for every capacity: a kept bit comes back where the capacity held it, every other position is an erasure. -/
theorem depuncture_puncture (c m : List Bool) (cap : Nat) :
    depuncture ((puncture c m cap).map soft) m c.length =
      (List.range c.length).map fun i =>
        if keptAt m i && decide (keptCount m 0 i < cap) then soft (c.getD i false) else 0 := by
  apply List.ext_getElem
  · simp
  · intro i hdep hmap
    have hi : i < c.length := by simpa using hdep
    rw [← List.getD_eq_getElem _ 0, getD_depuncture _ _ hi, List.getElem_map, List.getElem_range]
    cases hkept : keptAt m i
    · rfl
    · rcases Nat.lt_or_ge (keptCount m 0 i) cap with hlt | hge
      · have hin : keptCount m 0 i < (puncture c m cap).length := by
          have hnext := keptCount_le_of_le m (show i + 1 ≤ c.length from hi)
          rw [keptCount_succ_last, if_pos hkept] at hnext
          rw [length_puncture]
          omega
        have hbit := getD_puncture hi hkept cap
        rw [List.getD_eq_getElem _ _ hin, if_pos hlt] at hbit
        rw [List.getD_eq_getElem _ _ (by simpa using hin), List.getElem_map, hbit]
        simp [hlt]
      · have hout : ((puncture c m cap).map soft).length ≤ keptCount m 0 i := by
          rw [List.length_map, length_puncture]
          omega
        rw [List.getD_eq_default _ _ hout]
        simp [hge]

/-- Settles O33: the two transforms element by element, then `depuncture_puncture`; a capacity for all kept bits holds each. -/
theorem depunctureInvertsPuncture : Obligations.DepunctureInvertsPuncture := by
  unfold Obligations.DepunctureInvertsPuncture
  intro kept keptBefore
  have hcount (m : List Bool) (i : Nat) : keptBefore m i = keptCount m 0 i := by
    simp only [keptBefore, keptCount, Nat.zero_add]
    rfl
  refine ⟨puncture_eq, fun y m n => ⟨length_depuncture y m n, fun i hi => ?_⟩, fun c m cap hcap => ?_,
    fun c m cap => ?_⟩
  · rw [hcount]
    exact getD_depuncture y m hi
  · rw [hcount] at hcap
    rw [depuncture_puncture]
    refine List.map_congr_left fun i hi => ?_
    change (if keptAt m i && decide (keptCount m 0 i < cap) then soft (c.getD i false) else 0) =
      if keptAt m i then soft (c.getD i false) else 0
    cases hkept : keptAt m i
    · rfl
    · have hnext := keptCount_le_of_le m (show i + 1 ≤ c.length from List.mem_range.1 hi)
      rw [keptCount_succ_last, if_pos hkept] at hnext
      rw [decide_eq_true (by omega)]
      rfl
  · simp only [hcount]
    exact depuncture_puncture c m cap

/-! ### The three operations -/

theorem length_puncture_le (xs m : List Bool) (cap : Nat) : (puncture xs m cap).length ≤ cap := by
  rw [length_puncture]
  exact Nat.min_le_left _ _

theorem exec_puncture {m : MaskSel} {nOut : BitVec 10} {x : List Bool} (h : maskCountsOk x.length nOut.toNat = true)
    (s : State) :
    exec (.puncture m nOut x) s =
      .next (respond 0x31 statusOk (BitVec.ofNat 32 (puncture x (m17core.mask m) nOut.toNat).length ::
        packBits (puncture x (m17core.mask m) nOut.toNat)) s) :=
  if_pos h

theorem exec_depuncture {m : MaskSel} {nOut : BitVec 10} {y : List Byte} (h : maskCountsOk y.length nOut.toNat = true)
    (hrange : ∀ b ∈ y, inLlrRange b) (s : State) :
    exec (.depuncture m nOut y) s =
      .next (respond 0x32 statusOk
        (packBytes (llrBytes (depuncture (y.map fun b => b.toInt) (m17core.mask m) nOut.toNat))) s) := by
  have hwf : (Instr.depuncture m nOut y).wellFormed = true := h
  simp only [exec, execDepuncture, execDepunctureFor, if_pos hwf, llrsOf_of_inRange hrange]

theorem exec_llrMap {x : Word32} {r : RealVal} (h : realOfF32 x = some r) (s : State) :
    exec (.llrMap x) s =
      .next (respond 0x33 statusOk (packBytes (llrBytes [(m17core.llrMap r).1, (m17core.llrMap r).2])) s) := by
  simp only [exec, execLlrMap, execLlrMapFor, h]

theorem natAbs_clampLlr (v : Int) : (clampLlr v).natAbs ≤ 7 := by
  have h : clampLlr v = min 7 (max (-7) v) := rfl
  rw [h]
  omega

/-- Rule R145: both LLRs are clamped. -/
theorem natAbs_llrMap (r : RealVal) : (m17core.llrMap r).1.natAbs ≤ 7 ∧ (m17core.llrMap r).2.natAbs ≤ 7 :=
  ⟨natAbs_clampLlr _, natAbs_clampLlr _⟩

theorem toInt_ofInt_llr {v : Int} (h : v.natAbs ≤ 7) : (BitVec.ofInt 8 v).toInt = v := by
  rw [BitVec.toInt_ofInt]
  exact Int.bmod_eq_of_le (by omega) (by omega)

/-- Two bytes fill the upper half of one word (rule R63). -/
theorem packBytes_pair (a b : Byte) : packBytes [a, b] = [a ++ b ++ 0#16] := by
  have hpair : crcByteList (a ++ b) = [a, b] := by
    rw [crcByteList, BitVec.extractLsb'_append_eq_left, BitVec.extractLsb'_append_eq_right]
  rw [← hpair, packBytes_crcByteList]

/-- Settles O32: the lengths and the ranges are those of the transforms. -/
theorem bitUtilitiesAnswer : Obligations.BitUtilitiesAnswer := by
  have hcounts {n k : Nat} (hn : n ≤ 488) (hk : k ≤ 488) : maskCountsOk n k = true := by
    rw [maskCountsOk, Bool.and_eq_true]
    exact ⟨decide_eq_true hn, decide_eq_true hk⟩
  refine ⟨fun m nOut x s hx hn => ?_, fun m nOut y s hy hn hrange => ?_, fun x r s hr => ?_⟩
  · exact ⟨_, rfl, length_puncture_le x _ _, sublist_punctureFrom _ _ _ x, exec_puncture (hcounts hx hn) s⟩
  · exact ⟨_, rfl, length_depuncture _ _ _, llrList_depuncture (llrList_map_toInt hrange) _ _,
      exec_depuncture (hcounts hy hn) hrange s⟩
  · obtain ⟨h1, h2⟩ := natAbs_llrMap r
    refine ⟨BitVec.ofInt 8 (m17core.llrMap r).1, BitVec.ofInt 8 (m17core.llrMap r).2, ?_, ?_, toInt_ofInt_llr h1,
      toInt_ofInt_llr h2, ?_⟩
    · rw [inLlrRange, toInt_ofInt_llr h1]
      omega
    · rw [inLlrRange, toInt_ofInt_llr h2]
      omega
    · have hrecord (v : Word32) : recordWords 0x33 statusOk [v] = [0x33000001, v] := by simp [recordWords, statusOk]
      rw [exec_llrMap hr, llrBytes, List.map_cons, List.map_cons, List.map_nil, packBytes_pair, ← hrecord]
      rfl

end Sys2Proof.Machine

/-! SUPPORT. The interleaver (spec/44_interleaver_randomizer.md rules R176 to R179): the index function is an involution, so
scattering by it is gathering by it; what the two operations answer, and the statement about them. -/

namespace Sys2Proof.Machine

open Sys2Proof

/-- Rule R179 (a), for each of the 368 positions. -/
theorem ilvIndex_involution : ∀ i < 368, ilvIndex i < 368 ∧ ilvIndex (ilvIndex i) = i := by
  decide +kernel

theorem ilvIndex_lt {i : Nat} (h : i < 368) : ilvIndex i < 368 :=
  (ilvIndex_involution i h).1

theorem ilvIndex_ilvIndex {i : Nat} (h : i < 368) : ilvIndex (ilvIndex i) = i :=
  (ilvIndex_involution i h).2

/-! ### Gathering -/

@[simp] theorem length_deinterleave {α : Type} (d : α) (y : List α) : (deinterleave d y).length = 368 := by
  rw [deinterleave, List.length_map, List.length_range]
  rfl

theorem getElem_deinterleave {α : Type} (d : α) (y : List α) {i : Nat} (h : i < (deinterleave d y).length) :
    (deinterleave d y)[i] = y.getD (ilvIndex i) d := by
  simp only [deinterleave, List.getElem_map, List.getElem_range]

theorem getD_deinterleave {α : Type} (d : α) (y : List α) {i : Nat} (h : i < 368) :
    (deinterleave d y).getD i d = y.getD (ilvIndex i) d := by
  have hlen : i < (deinterleave d y).length := by rwa [length_deinterleave]
  rw [List.getD_eq_getElem _ _ hlen, getElem_deinterleave]

theorem deinterleave_deinterleave {α : Type} (d : α) {x : List α} (h : x.length = 368) :
    deinterleave d (deinterleave d x) = x := by
  refine List.ext_getElem (by rw [length_deinterleave, h]) fun i hi hix => ?_
  have h368 : i < 368 := h ▸ hix
  rw [getElem_deinterleave, getD_deinterleave d x (ilvIndex_lt h368), ilvIndex_ilvIndex h368, List.getD_eq_getElem _ _ hix]

theorem deinterleave_map {α β : Type} (f : α → β) (d : α) (y : List α) :
    deinterleave (f d) (y.map f) = (deinterleave d y).map f := by
  simp only [deinterleave, List.map_map]
  exact List.map_congr_left fun i _ => List.getD_map y d f

/-! ### Scattering -/

/-- Writing the elements of `x` to the positions `f k`, `f (k + 1)`, …, where `f` is an involution of the first `n`. -/
theorem getD_foldl_set {α : Type} {f : Nat → Nat} {n : Nat} (hf : ∀ i < n, f (f i) = i) (d : α) {j : Nat} (hj : j < n)
    (x : List α) (k : Nat) (hx : k + x.length ≤ n) (y : List α) (hy : y.length = n) :
    ((x.zipIdx k).foldl (fun y xi => y.set (f xi.2) xi.1) y).getD j d =
      if k ≤ f j ∧ f j < k + x.length then x.getD (f j - k) d else y.getD j d := by
  induction x generalizing k y with
  | nil => rw [if_neg (by rw [List.length_nil]; omega)]; rfl
  | cons a x ih =>
    rw [List.length_cons] at hx
    rw [List.zipIdx_cons, List.foldl_cons, ih (k + 1) (by omega) _ (by rw [List.length_set, hy]), List.length_cons]
    rcases lt_trichotomy (f j) k with hlt | heq | hgt
    · have hne : f k ≠ j := fun h => by have := hf k (by omega); rw [h] at this; omega
      rw [if_neg (by omega), if_neg (by omega), List.getD_eq_getElem?_getD, List.getElem?_set_ne hne,
        List.getD_eq_getElem?_getD]
    · have hpos : f k = j := by rw [← heq, hf j hj]
      rw [if_neg (by omega), if_pos (by omega), heq, Nat.sub_self, List.getD_cons_zero, hpos, List.getD_eq_getElem?_getD,
        List.getElem?_set_self (by omega)]
      rfl
    · have hne : f k ≠ j := fun h => by have := hf k (by omega); rw [h] at this; omega
      by_cases hin : f j < k + 1 + x.length
      · rw [if_pos ⟨hgt, hin⟩, if_pos (by omega), show f j - k = f j - (k + 1) + 1 by omega, List.getD_cons_succ]
      · rw [if_neg (by omega), if_neg (by omega), List.getD_eq_getElem?_getD, List.getElem?_set_ne hne,
          List.getD_eq_getElem?_getD]

theorem length_foldl_set {α : Type} (f : Nat → Nat) (xs : List (α × Nat)) (y : List α) :
    (xs.foldl (fun y xi => y.set (f xi.2) xi.1) y).length = y.length := by
  induction xs generalizing y with
  | nil => rfl
  | cons x xs ih => rw [List.foldl_cons, ih, List.length_set]

/-- Rule R179 (b): the index function is its own inverse, so to scatter by it is to gather by it. -/
theorem interleave_eq_deinterleave {α : Type} (d : α) {x : List α} (h : x.length = 368) :
    interleave d x = deinterleave d x := by
  have hk : Config.ILV_K = 368 := rfl
  have hlen : (interleave d x).length = 368 := by rw [interleave, length_foldl_set, List.length_replicate, hk]
  refine List.ext_getElem (by rw [hlen, length_deinterleave]) fun j hj hd => ?_
  have h368 : j < 368 := hlen ▸ hj
  have hget := getD_foldl_set (fun i hi => ilvIndex_ilvIndex hi) d h368 x 0 (by omega) (List.replicate 368 d)
    List.length_replicate
  rw [if_pos ⟨Nat.zero_le _, by rw [Nat.zero_add, h]; exact ilvIndex_lt h368⟩, Nat.sub_zero] at hget
  rw [getElem_deinterleave, ← hget, ← List.getD_eq_getElem _ d hj, interleave, hk, List.take_of_length_le h.le]

theorem length_interleave {α : Type} (d : α) {x : List α} (h : x.length = 368) : (interleave d x).length = 368 := by
  rw [interleave_eq_deinterleave d h, length_deinterleave]

theorem deinterleave_interleave {α : Type} (d : α) {x : List α} (h : x.length = 368) :
    deinterleave d (interleave d x) = x := by
  rw [interleave_eq_deinterleave d h, deinterleave_deinterleave d h]

theorem interleave_deinterleave {α : Type} (d : α) {x : List α} (h : x.length = 368) :
    interleave d (deinterleave d x) = x := by
  rw [interleave_eq_deinterleave d (length_deinterleave d x), deinterleave_deinterleave d h]

theorem interleave_map {α β : Type} (f : α → β) (d : α) {x : List α} (h : x.length = 368) :
    interleave (f d) (x.map f) = (interleave d x).map f := by
  rw [interleave_eq_deinterleave _ (by rwa [List.length_map]), interleave_eq_deinterleave _ h, deinterleave_map]

/-! ### The two operations -/

/-- A record of frame bits has twelve payload words. -/
theorem respond_frameBits {b : List Bool} (h : b.length = 368) (op : BitVec 8) (s : State) :
    respond op statusOk (packBits b) s =
      { s with rsp := s.rsp ++ (BitVec.ofNat 32 (op.toNat * 2 ^ 24 + 12) :: packBits b) } := by
  have hwords : (packBits b).length = 12 := by rw [packBits_length, h]
  rw [← recordWords_ok hwords (by omega)]
  rfl

/-- A record of frame LLRs has ninety-two. -/
theorem respond_frameBytes {l : List Byte} (h : l.length = 368) (op : BitVec 8) (s : State) :
    respond op statusOk (packBytes l) s =
      { s with rsp := s.rsp ++ (BitVec.ofNat 32 (op.toNat * 2 ^ 24 + 92) :: packBytes l) } := by
  have hwords : (packBytes l).length = 92 := by rw [packBytes_length, h]
  rw [← recordWords_ok hwords (by omega)]
  rfl

/-- On LLRs in range, a permutation of the values is one of the bytes they are read from. -/
theorem permuteFrame_llrs {l : List Byte} (hrange : ∀ b ∈ l, inLlrRange b) {f : List Bool → List Bool}
    {g : List Llr → List Llr} {m : List Byte} (hg : g (l.map fun b => b.toInt) = m.map fun b => b.toInt) (op : BitVec 8)
    (w : Word32) (s : State) : permuteFrame op f g w (.llrs l) s = .next (respond op statusOk (packBytes m) s) := by
  have hbytes : llrBytes (m.map fun b => b.toInt) = m := by simp [llrBytes, Function.comp_def]
  simp only [permuteFrame, llrsOf_of_inRange hrange, hg, hbytes]

/-- Settles O38: scattering is gathering by the involution, and a permutation commutes with reading bytes as LLRs. -/
theorem interleaveOperationsPermute : Obligations.InterleaveOperationsPermute := by
  refine ⟨ilvIndex_involution, fun x s hx => ⟨?_, ?_⟩, fun l s hl hrange => ⟨?_, ?_⟩, fun α d x hx =>
    ⟨length_interleave d hx, fun i hi => ⟨?_, getD_deinterleave d x hi⟩, deinterleave_interleave d hx,
      interleave_deinterleave d hx⟩⟩
  · exact congrArg Host.Outcome.next (respond_frameBits (length_interleave false hx) 0x50 s)
  · exact congrArg Host.Outcome.next (respond_frameBits (length_deinterleave false x) 0x51 s)
  · have hmap := interleave_map (fun b : Byte => b.toInt) 0 hl
    exact (permuteFrame_llrs (f := interleave false) hrange hmap 0x50 _ s).trans
      (congrArg Host.Outcome.next (respond_frameBytes (length_interleave 0 hl) 0x50 s))
  · have hmap := deinterleave_map (fun b : Byte => b.toInt) 0 l
    exact (permuteFrame_llrs (f := deinterleave false) hrange hmap 0x51 _ s).trans
      (congrArg Host.Outcome.next (respond_frameBytes (length_deinterleave 0 l) 0x51 s))
  · rw [interleave_eq_deinterleave d hx, getD_deinterleave d x (ilvIndex_lt hi), ilvIndex_ilvIndex hi]

end Sys2Proof.Machine

/-! SUPPORT. The correlator and the carrier detector (spec/45_correlator_sync_dcd.md rules R191 to R211): the ring after a
run of samples, the correlation as a sum, the test of the two thresholds, and the statements about COR_SAMPLE, about the two
operations that read the correlation, and about carrier detect. -/

namespace Sys2Proof.Machine

open Sys2Proof

/-! ### Ring positions -/

theorem ring_val (x : Int) : (ring x).val = (x % 80).toNat := rfl

theorem ring_of_fin (p : Fin 80) : ring p.val = p :=
  Fin.ext (by rw [ring_val]; omega)

theorem ring_eq_iff {x y : Int} : ring x = ring y ↔ x % 80 = y % 80 := by
  rw [Fin.ext_iff, ring_val, ring_val]
  omega

theorem ring_succ (p : Fin 80) : ring (p.val + 1) = p + 1 := by
  apply Fin.ext
  rw [ring_val, Fin.val_add]
  change ((p.val + 1 : Int) % 80).toNat = (p.val + 1) % 80
  omega

/-! ### A run of samples -/

/-- The newest sample stands at the old write position. -/
theorem corSample_buf_pos (p : Params) (x : RealVal) (c : Cor) : (corSample p x c).buf[c.pos] = x :=
  Vector.getElem_set_self c.pos.isLt

theorem corSample_buf_of_ne (p : Params) (x : RealVal) {c : Cor} {i : Fin 80} (h : i ≠ c.pos) :
    (corSample p x c).buf[i] = c.buf[i] :=
  Vector.getElem_set_ne c.pos.isLt i.isLt fun heq => h (Fin.ext heq.symm)

/-- Up to a ring of samples stand in it in the order they came, the first at the old write position. -/
theorem corSamples_fill (p : Params) (c : Cor) (xs : List RealVal) (h : xs.length ≤ 80) :
    (xs.foldl (fun c x => corSample p x c) c).pos = ring (c.pos.val + xs.length) ∧
    ∀ k : Nat, k < xs.length → (xs.foldl (fun c x => corSample p x c) c).buf[ring (c.pos.val + k)] = xs.getD k 0 := by
  induction xs using List.reverseRecOn with
  | nil => exact ⟨by rw [List.length_nil, Nat.cast_zero, add_zero, ring_of_fin]; rfl, fun k hk => absurd hk (Nat.not_lt_zero k)⟩
  | append_singleton xs x ih =>
    rw [List.length_append, List.length_singleton] at h ⊢
    obtain ⟨hpos, hbuf⟩ := ih (by omega)
    rw [List.foldl_append, List.foldl_cons, List.foldl_nil]
    refine ⟨?_, fun k hk => ?_⟩
    · change ring ((xs.foldl (fun c x => corSample p x c) c).pos.val + 1) = _
      rw [hpos, ring_eq_iff, ring_val]
      omega
    · rcases Nat.lt_succ_iff_lt_or_eq.1 hk with hlt | rfl
      · have hne : ring (c.pos.val + k) ≠ (xs.foldl (fun c x => corSample p x c) c).pos := by
          rw [hpos, ne_eq, ring_eq_iff]
          omega
        rw [corSample_buf_of_ne p x hne, hbuf k hlt, List.getD_append _ _ _ _ hlt]
      · simp only [← hpos, corSample_buf_pos]
        rw [List.getD_append_right _ _ _ _ le_rfl, Nat.sub_self, List.getD_cons_zero]

/-- The newest sample is the one before the write position. -/
theorem corSamples_prevPos (p : Params) (c : Cor) {xs : List RealVal} (h0 : xs ≠ []) (h : xs.length ≤ 80) :
    (xs.foldl (fun c x => corSample p x c) c).prevPos = ring (c.pos.val + xs.length - 1) := by
  obtain ⟨ys, y, rfl⟩ := (List.eq_nil_or_concat' xs).resolve_left h0
  rw [List.length_append, List.length_singleton] at h ⊢
  rw [List.foldl_append, List.foldl_cons, List.foldl_nil]
  change (ys.foldl (fun c x => corSample p x c) c).pos = _
  rw [(corSamples_fill p c ys (by omega)).1, ring_eq_iff]
  omega

/-! ### The correlation -/

theorem correlate_eq_sum (p : Params) (c : Cor) (w : SynSel) :
    correlate p c w = ((List.range 8).map fun k =>
      (((p.sync w).getD k 0 : Int) : RealVal) * c.buf[ring (c.prevPos.val + 10 * (k + 1))]).sum := by
  rw [List.sum_eq_foldl, List.foldl_map]
  rfl

/-- Both thresholds of rule R199 in one test. -/
theorem synTriggered_eq (p : Params) (c : Cor) (w : SynSel) :
    synTriggered p c w =
      if c.limit * p.mag1 w < correlate p c w ∨ ∃ m ∈ p.mag2 w, correlate p c w < c.limit * m
      then correlate p c w else 0 := by
  have hlow : belowLo p c w 1 (correlate p c w) = true ↔ ∃ m ∈ p.mag2 w, correlate p c w < c.limit * m := by
    rw [belowLo, triggerLo]
    cases p.mag2 w <;> simp
  simp only [synTriggered, triggerHi, hlow, ite_or]

/-! ### The operations -/

theorem withSample_of_some {x : Word32} {r : RealVal} (h : realOfF32 x = some r) (w : Word32) (s : State)
    (k : RealVal → State) : withSample x w s k = .next (k r) := by
  rw [withSample, h]

theorem exec_corSample {x : Word32} {r : RealVal} (h : realOfF32 x = some r) (s : State) :
    exec (.corSample x) s = .next { s with cor := corSample m17core r s.cor, rsp := s.rsp ++ [0x60000000] } :=
  withSample_of_some h _ s _

/-- Settles O40: the ring holds the last eighty samples from the write position on, so its taps are every tenth of them. -/
theorem corSampleFillsRing : Obligations.CorSampleFillsRing := by
  refine ⟨fun x r s h => ?_, fun c xs hxs => ?_⟩
  · rw [exec_corSample h, corSample, ring_succ]
    rfl
  · intro c'
    obtain ⟨-, hbuf⟩ := corSamples_fill m17core c xs hxs.le
    have hprev : c'.prevPos = ring (c.pos.val + 79) := by
      rw [show c'.prevPos = _ from corSamples_prevPos m17core c (List.ne_nil_of_length_pos (by omega)) hxs.le, hxs]
      congr 1
      omega
    have hfill (k : Nat) (hk : k < 80) : c'.buf[ring (c'.prevPos.val + 1 + k)] = xs.getD k 0 := by
      have hpos : ring (c'.prevPos.val + 1 + k) = ring (c.pos.val + k) := by
        rw [hprev, ring_eq_iff, ring_val]
        omega
      simp only [hpos]
      exact hbuf k (by omega)
    refine ⟨hfill, ?_, fun w => ?_⟩
    · change c'.prevPos.val % 10 = _
      rw [hprev, ring_val]
      omega
    · rw [correlate_eq_sum]
      refine congrArg List.sum (List.map_congr_left fun k hk => ?_)
      have hk8 : k < 8 := List.mem_range.1 hk
      have htap : (c'.prevPos.val + 10 * (k + 1) : Int) = c'.prevPos.val + 1 + (10 * k + 9 : Nat) := by push_cast; ring
      simp only [htap, hfill _ (show 10 * k + 9 < 80 by omega)]

theorem respond_word (op : BitVec 8) (v : Word32) (s : State) :
    respond op statusOk [v] s = { s with rsp := s.rsp ++ [BitVec.ofNat 32 (op.toNat * 2 ^ 24 + 1), v] } := by
  rw [respond, recordWords_ok List.length_singleton (by omega)]
  rfl

/-- Settles O41: the trigger is the correlation where `synTriggered_eq` finds it beyond a threshold. -/
theorem correlationReadsChangeNothing : Obligations.CorrelationReadsChangeNothing := by
  refine ⟨fun w s => ?_, decode_of_reject rfl [], decode_of_reject rfl []⟩
  intro v
  have hv : correlate m17core s.cor w = v := correlate_eq_sum m17core s.cor w
  have hread : exec (.syncTriggered w) s =
      .next { s with rsp := s.rsp ++ [0x62000001, f32OfReal (synTriggered m17core s.cor w)] } :=
    congrArg Host.Outcome.next (respond_word 0x62 _ s)
  refine ⟨?_, fun h => ?_, fun h => ?_⟩
  · rw [← hv]
    exact congrArg Host.Outcome.next (respond_word 0x61 _ s)
  · rw [hread, synTriggered_eq, hv, if_pos h]
  · rw [hread, synTriggered_eq, hv, if_neg h]
    rfl

/-! ### Carrier detect -/

theorem exec_dcdSample {x : Word32} {r : RealVal} (h : realOfF32 x = some r) (s : State) :
    exec (.dcdSample x) s = .next { s with dcd := dcdSample m17core r s.dcd, rsp := s.rsp ++ [0x68000000] } :=
  withSample_of_some h _ s _

theorem exec_dcdUpdate (s : State) :
    exec .dcdUpdate s = .next { s with
      dcd := dcdUpdate m17core s.dcd
      rsp := s.rsp ++ [0x69000001, if (dcdUpdate m17core s.dcd).locked then 1 else 0] } := by
  have hrecord (b : Bool) : recordWords 0x69 statusOk [BitVec.ofNat 32 b.toNat] = [0x69000001, if b then 1 else 0] := by
    cases b <;> rfl
  rw [← hrecord]
  rfl

/-- The decision of rule R211: beyond the high threshold a carrier, at or below the low one none, in between as before. -/
theorem dcdUpdate_locked (d : Dcd) :
    (4 < dcdLevel d → (dcdUpdate m17core d).locked = true) ∧
    (dcdLevel d ≤ 1 → (dcdUpdate m17core d).locked = false) ∧
    (1 < dcdLevel d → dcdLevel d ≤ 4 → (dcdUpdate m17core d).locked = d.locked) := by
  have hdef : (dcdUpdate m17core d).locked = decide ((if d.locked then (1 : RealVal) else 4) < dcdLevel d) := rfl
  rw [hdef]
  refine ⟨fun h => decide_eq_true ?_, fun h => decide_eq_false ?_, fun hlow hhigh => ?_⟩
  · split <;> linarith
  · split <;> linarith
  · cases d.locked
    · exact decide_eq_false hhigh.not_gt
    · exact decide_eq_true hlow

/-- Settles O44: the two detectors step by `sdftStep`, the decision is `dcdUpdate_locked`. -/
theorem carrierDetectAccumulatesAndDecides : Obligations.CarrierDetectAccumulatesAndDecides := by
  refine ⟨fun x r s h => ⟨sdftStep (m17core.dcdW m17core.dcdFIn) r s.dcd.sdftIn,
    sdftStep (m17core.dcdW m17core.dcdFOut) r s.dcd.sdftOut, exec_dcdSample h s, fun p hp => ?_⟩,
    fun s => ⟨(dcdUpdate m17core s.dcd).locked, exec_dcdUpdate s, dcdUpdate_locked s.dcd⟩⟩
  rcases List.mem_cons.1 hp with rfl | hp
  · exact ⟨rfl, rfl, rfl, rfl⟩
  · rcases List.mem_singleton.1 hp with rfl
    exact ⟨rfl, rfl, rfl, rfl⟩

end Sys2Proof.Machine

/-! SUPPORT. Rounding to binary32 (spec/20_memory.md rule R63): the finite words as multiples of 2^-149, the quantum of a
positive number, the rounding of its quotient by the quantum, and the statement that the word returned is a nearest one. -/

namespace Sys2Proof.Machine

open Sys2Proof

/-! ### The finite words, in units of 2^-149 -/

/-- The magnitude of the exponent and fraction fields in units of 2^-149 (`f32Magnitude_mul_two_pow`). -/
def f32Units (e f : Nat) : Nat :=
  if e = 0 then f else (2 ^ 23 + f) * 2 ^ (e - 1)

theorem f32Magnitude_nonneg (e f : Nat) : 0 ≤ f32Magnitude e f := by
  have h := f32Magnitude_mul_two_pow e f
  have hnonneg : 0 ≤ f32Magnitude e f * 2 ^ 149 := h ▸ Nat.cast_nonneg _
  exact nonneg_of_mul_nonneg_left hnonneg (by positivity)

theorem f32Magnitude_eq (e f : Nat) : f32Magnitude e f = f32Units e f / 2 ^ 149 := by
  rw [eq_div_iff (by positivity)]
  exact f32Magnitude_mul_two_pow e f

theorem abs_of_realOfF32 {v : Word32} {r : RealVal} (h : realOfF32 v = some r) :
    |r| = f32Magnitude (v.extractLsb' 23 8).toNat (v.extractLsb' 0 23).toNat := by
  have hfinite : ¬ notFinite v := fun hv => by rw [(realOfF32_eq_none_iff v).2 hv] at h; cases h
  rw [realOfF32_of_finite hfinite, Option.some_inj] at h
  rw [← h, abs_mul, abs_of_nonneg (f32Magnitude_nonneg _ _)]
  split <;> simp

/-- A number of units is a whole number of quanta `2^q`, or is at most the least normal one of that quantum. -/
theorem f32Units_multiple_or_le {e f : Nat} (hf : f < 2 ^ 23) (q : Nat) :
    (∃ k : Nat, f32Units e f = k * 2 ^ q) ∨ (0 < q ∧ f32Units e f ≤ 2 ^ 23 * 2 ^ q) := by
  unfold f32Units
  rcases Nat.lt_or_ge q e with hlt | hge
  · rw [if_neg (by omega)]
    exact .inl ⟨(2 ^ 23 + f) * 2 ^ (e - 1 - q), by rw [mul_assoc, ← pow_add]; congr 2; omega⟩
  · split
    case isTrue =>
      rcases Nat.eq_zero_or_pos q with rfl | hpos
      · exact .inl ⟨f, by omega⟩
      · exact .inr ⟨hpos, hf.le.trans (Nat.le_mul_of_pos_right _ (by positivity))⟩
    case isFalse he =>
      refine .inr ⟨by omega, ?_⟩
      have hpow : 2 ^ q = 2 * 2 ^ (q - 1) := by rw [← pow_succ']; congr 1; omega
      calc (2 ^ 23 + f) * 2 ^ (e - 1) ≤ (2 ^ 23 * 2) * 2 ^ (q - 1) :=
            Nat.mul_le_mul (by omega) (Nat.pow_le_pow_right (by decide) (by omega))
        _ = 2 ^ 23 * 2 ^ q := by rw [hpow, mul_assoc]

/-- The bits of `m` quanta, where `m` has 24 digits or the quantum is the least one; a carry goes into the exponent. -/
theorem f32Units_of_bits {q m : Nat} (hm : m ≤ 2 ^ 24) (hq : q = 0 ∨ 2 ^ 23 ≤ m) :
    f32Units ((q * 2 ^ 23 + m) / 2 ^ 23) ((q * 2 ^ 23 + m) % 2 ^ 23) = m * 2 ^ q := by
  unfold f32Units
  rcases Nat.lt_or_ge m (2 ^ 23) with hlow | hhigh
  · obtain rfl : q = 0 := hq.resolve_right (by omega)
    rw [if_pos (by omega)]
    omega
  · rw [if_neg (by omega)]
    rcases hm.lt_or_eq with hlt | rfl
    · have he : (q * 2 ^ 23 + m) / 2 ^ 23 - 1 = q := by omega
      rw [he]
      congr 1
      omega
    · have he : (q * 2 ^ 23 + 2 ^ 24) / 2 ^ 23 - 1 = q + 1 := by omega
      rw [he, show 2 ^ 23 + (q * 2 ^ 23 + 2 ^ 24) % 2 ^ 23 = 2 ^ 23 by omega, pow_succ 2 q]
      ring

/-! ### The quantum -/

theorem two_zpow_of_nonneg {e : Int} (h : 0 ≤ e) : (2 : RealVal) ^ e = 2 ^ e.toNat := by
  rw [← zpow_natCast, Int.toNat_of_nonneg h]

theorem two_zpow_of_neg {e : Int} (h : ¬ 0 ≤ e) : (2 : RealVal) ^ e = (2 ^ (-e).toNat)⁻¹ := by
  rw [← zpow_natCast, ← zpow_neg, Int.toNat_of_nonneg (by omega), neg_neg]

/-- The comparison of `n/d` with a power of two, cross-multiplied. -/
theorem lt_two_zpow_iff {d : Nat} (hd : 0 < d) (n : Nat) (e : Int) :
    (if 0 ≤ e then decide (n < d * 2 ^ e.toNat) else decide (n * 2 ^ (-e).toNat < d)) = true ↔
      (n : RealVal) / d < 2 ^ e := by
  have hd' : (0 : RealVal) < d := Nat.cast_pos.2 hd
  rw [div_lt_iff₀ hd']
  split
  case isTrue h =>
    rw [two_zpow_of_nonneg h, decide_eq_true_iff, mul_comm, ← Nat.cast_lt (α := RealVal)]
    push_cast
    rfl
  case isFalse h =>
    rw [two_zpow_of_neg h, decide_eq_true_iff, inv_mul_eq_div, lt_div_iff₀ (by positivity), ← Nat.cast_lt (α := RealVal)]
    push_cast
    rfl

/-- The numerator and denominator of the quotient by the quantum. -/
theorem quotient_eq {d : Nat} (hd : 0 < d) (n : Nat) (q : Int) :
    (((if 0 ≤ q then n else n * 2 ^ (-q).toNat : Nat) : RealVal) / (if 0 ≤ q then d * 2 ^ q.toNat else d : Nat)) =
      (n : RealVal) / d / 2 ^ q := by
  have hd' : (d : RealVal) ≠ 0 := Nat.cast_ne_zero.2 hd.ne'
  split
  case isTrue h => rw [two_zpow_of_nonneg h, div_div]; push_cast; rfl
  case isFalse h => rw [two_zpow_of_neg h, div_inv_eq_mul]; push_cast; ring

theorem two_zpow_log2_le {n : Nat} (hn : 0 < n) : (2 : RealVal) ^ (Nat.log2 n : Int) ≤ n := by
  rw [zpow_natCast]
  exact_mod_cast Nat.log2_self_le hn.ne'

theorem lt_two_zpow_log2 (n : Nat) : (n : RealVal) < 2 ^ ((Nat.log2 n : Int) + 1) := by
  have h : n < 2 ^ (Nat.log2 n + 1) := Nat.lt_log2_self
  rw [← Nat.cast_add_one, zpow_natCast]
  exact_mod_cast h

/-- Rule R63: at most 24 digits left of the quantum, and exactly 24 above the subnormals. -/
theorem quantumExp_spec {n d : Nat} (hn : 0 < n) (hd : 0 < d) :
    -149 ≤ quantumExp n d ∧ (n : RealVal) / d / 2 ^ quantumExp n d < 2 ^ 24 ∧
      (-149 < quantumExp n d → 2 ^ 23 ≤ (n : RealVal) / d / 2 ^ quantumExp n d) := by
  have hd' : (0 : RealVal) < d := Nat.cast_pos.2 hd
  have hn' : (0 : RealVal) < n := Nat.cast_pos.2 hn
  obtain ⟨e, he⟩ : ∃ e : Int, e = (Nat.log2 n : Int) - (Nat.log2 d : Int) := ⟨_, rfl⟩
  have hlow : (2 : RealVal) ^ (e - 1) ≤ n / d := by
    rw [le_div_iff₀ hd']
    calc (2 : RealVal) ^ (e - 1) * d ≤ 2 ^ (e - 1) * 2 ^ ((Nat.log2 d : Int) + 1) := by
          gcongr; exact (lt_two_zpow_log2 d).le
      _ = 2 ^ (Nat.log2 n : Int) := by rw [← zpow_add₀ two_ne_zero]; congr 1; omega
      _ ≤ n := two_zpow_log2_le hn
  have hhigh : (n : RealVal) / d < 2 ^ (e + 1) := by
    rw [div_lt_iff₀ hd']
    calc (n : RealVal) < 2 ^ ((Nat.log2 n : Int) + 1) := lt_two_zpow_log2 n
      _ = 2 ^ (e + 1) * 2 ^ (Nat.log2 d : Int) := by rw [← zpow_add₀ two_ne_zero]; congr 1; omega
      _ ≤ 2 ^ (e + 1) * d := by gcongr; exact two_zpow_log2_le hd
  obtain ⟨top, htop⟩ : ∃ top : Int, top =
      if (if 0 ≤ e then decide (n < d * 2 ^ e.toNat) else decide (n * 2 ^ (-e).toNat < d)) = true then e - 1 else e :=
    ⟨_, rfl⟩
  have hq : quantumExp n d = max (top - 23) (-149) := by rw [htop, he]; rfl
  have hbounds : (2 : RealVal) ^ top ≤ n / d ∧ (n : RealVal) / d < 2 ^ (top + 1) := by
    rw [htop]
    simp only [lt_two_zpow_iff hd]
    split
    case isTrue hlt => exact ⟨hlow, by rwa [sub_add_cancel]⟩
    case isFalse hge => exact ⟨not_lt.1 hge, hhigh⟩
  obtain ⟨hle, hlt⟩ := hbounds
  have h24 (q : Int) : (2 : RealVal) ^ 24 * 2 ^ q = 2 ^ (q + 24) := by rw [zpow_add₀ two_ne_zero, mul_comm]; rfl
  have h23 (q : Int) : (2 : RealVal) ^ 23 * 2 ^ q = 2 ^ (q + 23) := by rw [zpow_add₀ two_ne_zero, mul_comm]; rfl
  refine ⟨by omega, ?_, fun hnormal => ?_⟩
  · rw [div_lt_iff₀ (by positivity), h24]
    exact hlt.trans_le (zpow_le_zpow_right₀ one_le_two (by omega))
  · rw [le_div_iff₀ (by positivity), h23, show quantumExp n d + 23 = top by omega]
    exact hle

/-! ### Rounding a quotient -/

/-- The rounding step of `magnitudeBits`. -/
def roundDiv (num den : Nat) (up : Bool) : Nat :=
  if den < 2 * (num % den) || (2 * (num % den) == den && up) then num / den + 1 else num / den

theorem magnitudeBits_eq (n d : Nat) (up : Bool) :
    magnitudeBits n d up = (quantumExp n d + 149).toNat * 2 ^ 23 +
      roundDiv (if 0 ≤ quantumExp n d then n else n * 2 ^ (-quantumExp n d).toNat)
        (if 0 ≤ quantumExp n d then d * 2 ^ (quantumExp n d).toNat else d) up := rfl

theorem abs_roundDiv_sub_le {den : Nat} (h : 0 < den) (num : Nat) (up : Bool) :
    |(roundDiv num den up : RealVal) - num / den| ≤ 1 / 2 := by
  have hden : (0 : RealVal) < den := Nat.cast_pos.2 h
  have hmod : num % den < den := Nat.mod_lt num h
  have hsplit : den * (num / den) + num % den = num := Nat.div_add_mod num den
  have hsplit' : (den : RealVal) * ((num / den : Nat) : RealVal) + ((num % den : Nat) : RealVal) = num := by
    exact_mod_cast hsplit
  have hfrac : (num : RealVal) / den = ((num / den : Nat) : RealVal) + ((num % den : Nat) : RealVal) / den := by
    rw [← hsplit']
    field_simp
  rw [hfrac, roundDiv]
  split
  case isTrue hup =>
    have hhalf : den ≤ 2 * (num % den) := by
      rw [Bool.or_eq_true, Bool.and_eq_true, decide_eq_true_iff, beq_iff_eq] at hup
      omega
    have h1 : (1 / 2 : RealVal) ≤ ((num % den : Nat) : RealVal) / den := by
      rw [div_le_div_iff₀ two_pos hden]
      exact_mod_cast (by omega : 1 * den ≤ num % den * 2)
    have h2 : ((num % den : Nat) : RealVal) / den < 1 := by
      rw [div_lt_one hden]
      exact_mod_cast hmod
    rw [abs_le, Nat.cast_add_one]
    constructor <;> linarith
  case isFalse hdown =>
    have hhalf : 2 * (num % den) ≤ den := by
      rw [Bool.or_eq_true, not_or, decide_eq_true_iff] at hdown
      omega
    have h1 : ((num % den : Nat) : RealVal) / den ≤ 1 / 2 := by
      rw [div_le_div_iff₀ hden two_pos]
      exact_mod_cast (by omega : num % den * 2 ≤ 1 * den)
    have h2 : 0 ≤ ((num % den : Nat) : RealVal) / den := by positivity
    rw [abs_le]
    constructor <;> linarith

/-- No whole number is nearer to `z` than one at most a half away. -/
theorem abs_sub_le_of_half {m z : RealVal} {a : Int} (ha : m = a) (h : |m - z| ≤ 1 / 2) (k : Int) : |m - z| ≤ |(k : RealVal) - z| := by
  rcases eq_or_ne a k with rfl | hne
  · rw [ha]
  · have hstep : (1 : RealVal) ≤ |(k : RealVal) - m| := by
      rw [ha, ← Int.cast_sub, ← Int.cast_abs, ← Int.cast_one, Int.cast_le]
      exact Int.one_le_abs (sub_ne_zero.2 hne.symm)
    have htri : |(k : RealVal) - m| ≤ |(k : RealVal) - z| + |m - z| := by
      rw [abs_sub_comm m z]
      exact abs_sub_le _ _ _
    linarith

/-! ### The nearest magnitude -/

/-- `y`, in units of 2^-149 and divided by the quantum `2^q`, is rounded to `m`. -/
structure RoundedTo (y : RealVal) (q m : Nat) : Prop where
  near : |(m : RealVal) - y * 2 ^ 149 / 2 ^ q| ≤ 1 / 2
  digits : y * 2 ^ 149 / 2 ^ q < 2 ^ 24
  normal : q = 0 ∨ 2 ^ 23 ≤ y * 2 ^ 149 / 2 ^ q

theorem magnitudeBits_spec {n d : Nat} (hn : 0 < n) (hd : 0 < d) (up : Bool) :
    ∃ q m : Nat, magnitudeBits n d up = q * 2 ^ 23 + m ∧ RoundedTo ((n : RealVal) / d) q m := by
  obtain ⟨hleast, hlt, hge⟩ := quantumExp_spec hn hd
  obtain ⟨q, hq⟩ : ∃ q : Nat, quantumExp n d = q - 149 := ⟨(quantumExp n d + 149).toNat, by omega⟩
  have hscale (y : RealVal) : y / 2 ^ ((q : Int) - 149) = y * 2 ^ 149 / 2 ^ q := by
    rw [zpow_sub₀ two_ne_zero, zpow_natCast, ← div_mul]
    exact div_mul_eq_mul_div _ _ _
  have hquot := quotient_eq hd n (quantumExp n d)
  rw [hq, hscale] at hlt hge hquot
  refine ⟨q, _, by rw [magnitudeBits_eq, hq, show ((q : Int) - 149 + 149).toNat = q by omega], ?_, hlt, ?_⟩
  · rw [← hquot]
    exact abs_roundDiv_sub_le (by split <;> positivity) _ up
  · rcases Nat.eq_zero_or_pos q with hzero | hpos
    · exact .inl hzero
    · exact .inr (hge (by omega))

section
variable {y : RealVal} {q m : Nat}

theorem RoundedTo.le (h : RoundedTo y q m) : m ≤ 2 ^ 24 := by
  have hnear := (abs_le.1 h.near).2
  have hlt : (m : RealVal) < (2 ^ 24 + 1 : Nat) := by push_cast; linarith [h.digits]
  exact Nat.lt_succ_iff.1 (Nat.cast_lt.1 hlt)

theorem RoundedTo.normal_or (h : RoundedTo y q m) : q = 0 ∨ 2 ^ 23 ≤ m := by
  refine h.normal.imp_right fun hge => ?_
  have hnear := (abs_le.1 h.near).1
  have hlt : ((2 ^ 23 : Nat) : RealVal) < (m + 1 : Nat) := by push_cast; linarith
  exact Nat.lt_succ_iff.1 (Nat.cast_lt.1 hlt)

/-- Half a unit in the last place below 2^128 is where a magnitude goes out of range. -/
theorem RoundedTo.bits_lt (h : RoundedTo y q m) (hy : y < 2 ^ 128 - 2 ^ 103) : q * 2 ^ 23 + m < 255 * 2 ^ 23 := by
  by_contra hout
  have hm := h.le
  have hq : 253 ≤ q := by omega
  have hz : (2 : RealVal) ^ 24 - 1 / 2 ≤ y * 2 ^ 149 / 2 ^ 253 := by
    rcases hq.eq_or_lt with rfl | hlt
    · obtain rfl : m = 2 ^ 24 := by omega
      have hnear := (abs_le.1 h.near).2
      push_cast at hnear
      linarith
    · have hnormal : (2 : RealVal) ^ 23 ≤ y * 2 ^ 149 / 2 ^ q := h.normal.resolve_left (by omega)
      rw [le_div_iff₀ (by positivity)] at hnormal ⊢
      have hpow : (2 : RealVal) ^ 254 ≤ 2 ^ q := pow_le_pow_right₀ one_le_two hlt
      linarith
  rw [le_div_iff₀ (by positivity)] at hz
  linarith

/-- No number of units of a binary32 word is nearer. -/
theorem RoundedTo.nearest (h : RoundedTo y q m) {e f : Nat} (hf : f < 2 ^ 23) :
    |((m * 2 ^ q : Nat) : RealVal) - y * 2 ^ 149| ≤ |(f32Units e f : RealVal) - y * 2 ^ 149| := by
  have hpos : (0 : RealVal) < 2 ^ q := by positivity
  have hunit (a : RealVal) : |a * 2 ^ q - y * 2 ^ 149| = |a - y * 2 ^ 149 / 2 ^ q| * 2 ^ q := by
    rw [← abs_of_pos hpos, ← abs_mul, abs_of_pos hpos, sub_mul, div_mul_cancel₀ _ hpos.ne']
  have hm : (m : RealVal) = ((m : Int) : RealVal) := (Int.cast_natCast m).symm
  have hleft : |((m * 2 ^ q : Nat) : RealVal) - y * 2 ^ 149| = |(m : RealVal) - y * 2 ^ 149 / 2 ^ q| * 2 ^ q := by
    push_cast
    exact hunit m
  rw [hleft]
  rcases f32Units_multiple_or_le (e := e) hf q with ⟨k, hk⟩ | ⟨hq, hle⟩
  · have hk' : (f32Units e f : RealVal) = ((k : Int) : RealVal) * 2 ^ q := by rw [hk]; push_cast; rfl
    rw [hk', hunit]
    gcongr ?_ * _
    exact abs_sub_le_of_half hm h.near k
  · have hnormal : (2 : RealVal) ^ 23 ≤ y * 2 ^ 149 / 2 ^ q := h.normal.resolve_left hq.ne'
    have hfar := abs_sub_le_of_half hm h.near (2 ^ 23 : Nat)
    have hle' : (f32Units e f : RealVal) ≤ 2 ^ 23 * 2 ^ q := by exact_mod_cast hle
    have hbelow : (2 : RealVal) ^ 23 * 2 ^ q ≤ y * 2 ^ 149 := (le_div_iff₀ hpos).1 hnormal
    calc |(m : RealVal) - y * 2 ^ 149 / 2 ^ q| * 2 ^ q ≤ |(2 : RealVal) ^ 23 - y * 2 ^ 149 / 2 ^ q| * 2 ^ q := by
          exact mul_le_mul_of_nonneg_right (by exact_mod_cast hfar) hpos.le
      _ = |2 ^ 23 * 2 ^ q - y * 2 ^ 149| := (hunit _).symm
      _ ≤ |(f32Units e f : RealVal) - y * 2 ^ 149| := by
          rw [abs_of_nonpos (by linarith), abs_of_nonpos (by linarith)]
          linarith

end

/-! ### The word returned -/

/-- The value of a word put together from a sign and magnitude bits in range. -/
theorem realOfF32_ofNat {bits : Nat} (h : bits < 255 * 2 ^ 23) (sign : Bool) :
    realOfF32 (BitVec.ofNat 32 (sign.toNat * 2 ^ 31 + bits)) =
      some ((if sign then -1 else 1) * f32Magnitude (bits / 2 ^ 23) (bits % 2 ^ 23)) := by
  have hexp : (BitVec.ofNat 32 (sign.toNat * 2 ^ 31 + bits)).extractLsb' 23 8 = BitVec.ofNat 8 (bits / 2 ^ 23) := by
    apply BitVec.eq_of_toNat_eq
    rw [BitVec.extractLsb'_toNat, BitVec.toNat_ofNat, BitVec.toNat_ofNat, Nat.shiftRight_eq_div_pow]
    cases sign <;> simp only [Bool.toNat_true, Bool.toNat_false] <;> omega
  have hfrac : (BitVec.ofNat 32 (sign.toNat * 2 ^ 31 + bits)).extractLsb' 0 23 = BitVec.ofNat 23 bits := by
    apply BitVec.eq_of_toNat_eq
    rw [BitVec.extractLsb'_toNat, BitVec.toNat_ofNat, BitVec.toNat_ofNat, Nat.shiftRight_eq_div_pow]
    omega
  have hsign : (BitVec.ofNat 32 (sign.toNat * 2 ^ 31 + bits)).getLsbD 31 = sign := by
    rw [BitVec.getLsbD_ofNat, Nat.testBit_eq_decide_div_mod_eq]
    cases sign <;> simp <;> omega
  have hfinite : ¬ notFinite (BitVec.ofNat 32 (sign.toNat * 2 ^ 31 + bits)) := fun hnot => by
    have h255 := congrArg BitVec.toNat (hexp.symm.trans hnot)
    rw [BitVec.toNat_ofNat, show (255 : BitVec 8).toNat = 255 from rfl] at h255
    omega
  rw [realOfF32_of_finite hfinite, hexp, hfrac, hsign, BitVec.toNat_ofNat, BitVec.toNat_ofNat,
    Nat.mod_eq_of_lt (show bits / 2 ^ 23 < 2 ^ 8 by omega)]

/-- `r` has the sign of `x`, or is 0. -/
theorem abs_signed_sub (x a : RealVal) :
    |(if x < 0 then -1 else 1) * a - x| = |a - (|x|)| := by
  split
  case isTrue hneg => rw [abs_of_neg hneg, ← abs_neg]; congr 1; ring
  case isFalse hpos => rw [abs_of_nonneg (not_lt.1 hpos), one_mul]

theorem abs_eq_natAbs_div (x : RealVal) : |x| = (x.num.natAbs : RealVal) / x.den := by
  conv_lhs => rw [← Rat.num_div_den x]
  rw [abs_div, Nat.abs_cast, Nat.cast_natAbs, Int.cast_abs]

/-- The word of a real in range other than 0: its sign, free where the magnitude rounds to 0, and its magnitude bits. -/
theorem f32OfReal_of_bits_lt {x : RealVal} (h0 : x ≠ 0)
    (h : magnitudeBits x.num.natAbs x.den (Config.f32TieUp x) < 255 * 2 ^ 23) :
    ∃ sign : Bool, (magnitudeBits x.num.natAbs x.den (Config.f32TieUp x) = 0 ∨ sign = decide (x < 0)) ∧
      f32OfReal x = BitVec.ofNat 32 (sign.toNat * 2 ^ 31 + magnitudeBits x.num.natAbs x.den (Config.f32TieUp x)) := by
  refine ⟨if magnitudeBits x.num.natAbs x.den (Config.f32TieUp x) = 0 then Config.f32ZeroSign x else decide (x < 0), ?_, ?_⟩
  · split
    case isTrue hzero => exact .inl hzero
    case isFalse => exact .inr rfl
  · rw [f32OfReal, if_neg h0]
    exact if_neg (not_le.2 h)

theorem realOfF32_f32OfReal {x : RealVal} (h0 : x ≠ 0) (hx : |x| < 2 ^ 128 - 2 ^ 103) :
    ∃ (r : RealVal) (q m : Nat), realOfF32 (f32OfReal x) = some r ∧ RoundedTo |x| q m ∧
      |r - x| = |((m * 2 ^ q : Nat) : RealVal) / 2 ^ 149 - (|x|)| := by
  have hnum : 0 < x.num.natAbs := Int.natAbs_pos.2 (Rat.num_ne_zero.2 h0)
  obtain ⟨q, m, hbits, hround⟩ := magnitudeBits_spec hnum x.den_pos (Config.f32TieUp x)
  rw [← abs_eq_natAbs_div] at hround
  obtain ⟨sign, hsign, hword⟩ := f32OfReal_of_bits_lt h0 (hbits ▸ hround.bits_lt hx)
  rw [hbits] at hsign hword
  refine ⟨_, q, m, hword ▸ realOfF32_ofNat (hround.bits_lt hx) sign, hround, ?_⟩
  rw [f32Magnitude_eq, f32Units_of_bits hround.le hround.normal_or]
  rcases hsign with hzero | rfl
  · have hm : m = 0 := by omega
    rw [hm, Nat.zero_mul, Nat.cast_zero, zero_div, mul_zero, zero_sub, zero_sub, abs_neg, abs_neg, abs_abs]
  · simp only [decide_eq_true_eq]
    exact abs_signed_sub x _

/-- Settles O47: the distance of two magnitudes bounds that of the numbers, and `RoundedTo.nearest` compares the magnitudes. -/
theorem returnedRealIsNearestBinary32 : Obligations.ReturnedRealIsNearestBinary32 := by
  intro x hx
  rcases eq_or_ne x 0 with rfl | h0
  · exact ⟨0, rfl, fun v r' _ => by rw [sub_zero, abs_zero]; exact abs_nonneg _⟩
  · obtain ⟨r, q, m, hr, hround, hdist⟩ := realOfF32_f32OfReal h0 hx
    refine ⟨r, hr, fun v r' hr' => ?_⟩
    have hpos : (0 : RealVal) < 2 ^ 149 := by positivity
    have hscale (a : RealVal) : |a / 2 ^ 149 - (|x|)| = |a - |x| * 2 ^ 149| / 2 ^ 149 := by
      calc |a / 2 ^ 149 - (|x|)| = |(a - |x| * 2 ^ 149) / 2 ^ 149| := by rw [sub_div, mul_div_cancel_right₀ _ hpos.ne']
        _ = |a - |x| * 2 ^ 149| / 2 ^ 149 := by rw [abs_div, abs_of_pos hpos]
    calc |r - x| = |((m * 2 ^ q : Nat) : RealVal) - |x| * 2 ^ 149| / 2 ^ 149 := by rw [hdist, hscale]
      _ ≤ |(f32Units (v.extractLsb' 23 8).toNat (v.extractLsb' 0 23).toNat : RealVal) - |x| * 2 ^ 149| / 2 ^ 149 := by
          exact div_le_div_of_nonneg_right (hround.nearest (BitVec.isLt _)) hpos.le
      _ = |(|r'|) - (|x|)| := by rw [← hscale, abs_of_realOfF32 hr', f32Magnitude_eq]
      _ ≤ |r' - x| := abs_abs_sub_abs_le_abs_sub r' x

end Sys2Proof.Machine

/-! SUPPORT. The frame decoder (spec/47_framer_framedecoder.md rules R240 to R259): an equation for each path of each of its
decodes, the LICH as four Golay codewords, and the two statements about FD_DECODE. -/

namespace Sys2Proof.Machine

open Sys2Proof

/-! ### The Viterbi decodes of the four coded paths -/

section
variable (p : Params) (x : List Llr) (m : MaskSel)

theorem length_fdViterbi_bits {coded data steps : Nat} (h : coded = 2 * steps) (hd : data ≤ steps) :
    (fdViterbi p x m coded data).bits.length = data :=
  length_viterbi_bits ((length_depuncture x (p.mask m) coded).trans h) hd

end

@[simp] theorem toList_lsfOfList {l : List Byte} (h : l.length = 30) : (lsfOfList l).toList = l := by
  refine List.ext_getElem (by simp [h]) fun i hi hil => ?_
  simp [lsfOfList, List.getElem?_eq_getElem hil]

/-! ### The LSF path -/

section
variable (p : Params) (x : List Llr) (fd : Fd) (vit : Vit)

/-- The thirty bytes of the LSF path. -/
def lsfBytes : List Byte :=
  bytesOfBits (fdViterbi p x .p1 488 240).bits

@[simp] theorem length_lsfBytes : (lsfBytes p x).length = 30 := by
  rw [lsfBytes, bytesOfBits_length, length_fdViterbi_bits p x .p1 (steps := 244) rfl (by omega)]

theorem toList_lsfBytes : (lsfOfList (lsfBytes p x)).toList = lsfBytes p x :=
  toList_lsfOfList (length_lsfBytes p x)

theorem fdLsf_of_good (h : crc16 (lsfBytes p x) = 0) :
    fdLsf p x fd vit =
      { fd := { fd with
          state := p.lsfClass (lsfBytes p x), lsf := lsfOfList (lsfBytes p x)
          crc := crcFold Config.CRC_SEED (lsfBytes p x) }
        vit := vit.after (fdViterbi p x .p1 488 240), result := .ok, cost := (fdViterbi p x .p1 488 240).cost
        event := frameEvent .lsf (fdViterbi p x .p1 488 240).cost (lsfBytes p x) [] } := by
  have hlist := toList_lsfBytes p x
  rw [lsfBytes] at h hlist
  simp only [fdLsf, lsfBytes, hlist, if_pos h]

theorem fdLsf_of_bad (h : crc16 (lsfBytes p x) ≠ 0) :
    fdLsf p x fd vit =
      { fd := { fd with
          state := .lsf, lichMask := 0, lsf := lsfZero, crc := crcFold Config.CRC_SEED (lsfBytes p x) }
        vit := vit.after (fdViterbi p x .p1 488 240), result := .fail, cost := (fdViterbi p x .p1 488 240).cost
        event := [] } := by
  have hlist := toList_lsfBytes p x
  rw [lsfBytes] at h hlist
  simp only [fdLsf, lsfBytes, hlist, if_neg h]

/-! ### The LICH path -/

theorem fdLich_of_none (h : lichGolay x = none) :
    fdLich x fd vit = { fd := fd, vit := vit, result := .fail, cost := 0, event := [] } := by
  rw [fdLich, h]

variable {x} {b : List Byte} (h : lichGolay x = some b)
include h

theorem fdLich_of_badNumber (hn : 5 < lichNumber b) :
    fdLich x fd vit = { fd := fd, vit := vit, result := .fail, cost := 0, event := [] } := by
  simp only [fdLich, h, if_pos hn]

theorem fdLich_of_incomplete (hn : ¬ 5 < lichNumber b) (hmask : fd.lichMask ||| (1#6 <<< lichNumber b) ≠ 0x3F) :
    fdLich x fd vit =
      { fd := { fd with
          lsf := storeFragment (lichNumber b) b fd.lsf, lichMask := fd.lichMask ||| (1#6 <<< lichNumber b) }
        vit := vit, result := .incomplete, cost := 0
        event := frameEvent .lich 0 (storeFragment (lichNumber b) b fd.lsf).toList b } := by
  simp only [fdLich, h, if_neg hn, if_pos hmask]

theorem fdLich_of_good (hn : ¬ 5 < lichNumber b) (hmask : fd.lichMask ||| (1#6 <<< lichNumber b) = 0x3F)
    (hcrc : crc16 (storeFragment (lichNumber b) b fd.lsf).toList = 0) :
    fdLich x fd vit =
      { fd := { fd with
          state := .stream, lsf := storeFragment (lichNumber b) b fd.lsf, lichMask := 0
          crc := crcFold Config.CRC_SEED (storeFragment (lichNumber b) b fd.lsf).toList }
        vit := vit, result := .ok, cost := 0
        event := frameEvent .lsf 0 (storeFragment (lichNumber b) b fd.lsf).toList [] } := by
  simp only [fdLich, h, if_neg hn, if_neg (not_not.2 hmask), if_pos hcrc]

theorem fdLich_of_bad (hn : ¬ 5 < lichNumber b) (hmask : fd.lichMask ||| (1#6 <<< lichNumber b) = 0x3F)
    (hcrc : crc16 (storeFragment (lichNumber b) b fd.lsf).toList ≠ 0) :
    fdLich x fd vit =
      { fd := { fd with
          lsf := storeFragment (lichNumber b) b fd.lsf, lichMask := 0x3F
          crc := crcFold Config.CRC_SEED (storeFragment (lichNumber b) b fd.lsf).toList }
        vit := vit, result := .fail, cost := 0
        event := frameEvent .lich 0 (storeFragment (lichNumber b) b fd.lsf).toList b } := by
  simp only [fdLich, h, if_neg hn, if_neg (not_not.2 hmask), if_neg hcrc]
  simp only [hmask]

end

theorem lichGroups_eq (cs : List (List Llr)) :
    lichGroups cs =
      if ∃ c ∈ cs, golayDec24 (golayWord c) = none then none
      else some (cs.map fun c => (golayDec24 (golayWord c)).getD 0) := by
  induction cs with
  | nil => simp [lichGroups]
  | cons c cs ih =>
    rw [lichGroups, ih]
    cases hc : golayDec24 (golayWord c) with
    | none => simp [hc]
    | some d =>
      by_cases hrest : ∃ c ∈ cs, golayDec24 (golayWord c) = none
      · simp [hrest]
      · simp [hrest, hc]

/-- The chunks of a list of whole chunks. -/
theorem chunks_eq_map_range {α : Type} {k n : Nat} (hk : 0 < k) {xs : List α} (h : xs.length = k * n) :
    chunks k xs = (List.range n).map fun c => (xs.drop (k * c)).take k := by
  induction n generalizing xs with
  | zero =>
    obtain rfl : xs = [] := List.length_eq_zero_iff.1 h
    rfl
  | succ n ih =>
    have hne : xs ≠ [] := List.ne_nil_of_length_pos (h ▸ Nat.mul_pos hk n.succ_pos)
    have hrest : (xs.drop k).length = k * n := by rw [List.length_drop, h, Nat.mul_succ, Nat.add_sub_cancel]
    rw [chunks_eq_take_cons hk hne, ih hrest, List.range_succ_eq_map, List.map_cons, List.map_map]
    refine congrArg₂ List.cons rfl (List.map_congr_left fun c _ => ?_)
    rw [List.drop_drop, Function.comp_apply, Nat.mul_succ, Nat.add_comm]

/-- The four codewords of the LICH. -/
theorem chunks_take_96 {x : List Llr} (h : x.length = 368) :
    chunks 24 (x.take 96) = (List.range 4).map fun c => (x.drop (24 * c)).take 24 := by
  have hlen : (x.take 96).length = 24 * 4 := by rw [List.length_take, h]; rfl
  rw [chunks_eq_map_range (by decide) hlen]
  refine List.map_congr_left fun c hc => ?_
  have hc4 : c < 4 := List.mem_range.1 hc
  rw [List.drop_take, List.take_take, Nat.min_eq_left (by omega)]

/-- What codeword `c` of the LICH decodes to. -/
def lichData (x : List Llr) (c : Nat) : Option (BitVec 12) :=
  golayDec24 (golayWord ((x.drop (24 * c)).take 24))

/-- The six bytes of the LICH, where all four codewords decode. -/
def lichBytes (x : List Llr) : List Byte :=
  bytesOfBits ((List.range 4).flatMap fun c => bitsOf ((lichData x c).getD 0))

theorem lichGolay_eq {x : List Llr} (h : x.length = 368) :
    lichGolay x =
      if lichData x 0 = none ∨ lichData x 1 = none ∨ lichData x 2 = none ∨ lichData x 3 = none then none
      else some (lichBytes x) := by
  have hany : (∃ c ∈ (List.range 4).map fun c => (x.drop (24 * c)).take 24, golayDec24 (golayWord c) = none) ↔
      (lichData x 0 = none ∨ lichData x 1 = none ∨ lichData x 2 = none ∨ lichData x 3 = none) := by
    simp [lichData, List.range_succ]
  rw [lichGolay, chunks_take_96 h, lichGroups_eq]
  simp only [hany]
  split
  · rfl
  · rw [Option.map_some, List.map_map, List.flatMap_map]
    rfl

/-- Rule R247: the fragment goes to its slot of five bytes. -/
theorem getElem_storeFragment {n : Nat} (b : List Byte) (lsf : Vector Byte 30) (k : Fin 30) :
    (storeFragment n b lsf)[k] = if k.val / 5 = n then b.getD (k.val % 5) 0 else lsf[k] := by
  have hslot : (5 * n ≤ k.val ∧ k.val < 5 * n + 5) ↔ k.val / 5 = n := by omega
  rw [storeFragment, Fin.getElem_fin, Vector.getElem_ofFn]
  simp only [hslot]
  split
  case isTrue heq => rw [show k.val - 5 * n = k.val % 5 by omega]
  case isFalse => rfl

/-! ### The stream and packet paths -/

section
variable (p : Params) (x : List Llr) (fd : Fd) (vit : Vit)

theorem fdStream_of_end
    (h : ((bytesOfBits (fdViterbi p (x.drop 96) .p2 296 144).bits).getD 0 0).getLsbD 7 = true ∧
      (fdViterbi p (x.drop 96) .p2 296 144).cost < 60) :
    fdStream p x fd vit =
      { fd := { fd with state := .lsf }, vit := vit.after (fdViterbi p (x.drop 96) .p2 296 144), result := .eos
        cost := (fdViterbi p (x.drop 96) .p2 296 144).cost
        event := frameEvent .stream (fdViterbi p (x.drop 96) .p2 296 144).cost fd.lsf.toList
          (bytesOfBits (fdViterbi p (x.drop 96) .p2 296 144).bits) } :=
  if_pos (Bool.and_eq_true _ _ ▸ ⟨h.1, decide_eq_true h.2⟩)

theorem fdStream_of_notEnd
    (h : ¬ (((bytesOfBits (fdViterbi p (x.drop 96) .p2 296 144).bits).getD 0 0).getLsbD 7 = true ∧
      (fdViterbi p (x.drop 96) .p2 296 144).cost < 60)) :
    fdStream p x fd vit =
      { fd := fd, vit := vit.after (fdViterbi p (x.drop 96) .p2 296 144), result := .ok
        cost := (fdViterbi p (x.drop 96) .p2 296 144).cost
        event := frameEvent .stream (fdViterbi p (x.drop 96) .p2 296 144).cost fd.lsf.toList
          (bytesOfBits (fdViterbi p (x.drop 96) .p2 296 144).bits) } :=
  if_neg fun hboth => h ⟨(Bool.and_eq_true _ _ ▸ hboth).1, of_decide_eq_true (Bool.and_eq_true _ _ ▸ hboth).2⟩

theorem fdPacket_of_last (t : FrameType) (acc : Bool)
    (h : ((bytesOfBits (fdViterbi p x .p3 420 206).bits).getD 25 0).getLsbD 7 = true) :
    fdPacket p t acc x fd vit =
      { fd := { fd with state := .lsf }, vit := vit.after (fdViterbi p x .p3 420 206)
        result := if acc then .ok else .fail, cost := (fdViterbi p x .p3 420 206).cost
        event := frameEvent t (fdViterbi p x .p3 420 206).cost fd.lsf.toList
          (bytesOfBits (fdViterbi p x .p3 420 206).bits) } :=
  if_pos h

theorem fdPacket_of_notLast (t : FrameType) (acc : Bool)
    (h : ¬ ((bytesOfBits (fdViterbi p x .p3 420 206).bits).getD 25 0).getLsbD 7 = true) :
    fdPacket p t acc x fd vit =
      { fd := fd, vit := vit.after (fdViterbi p x .p3 420 206), result := .packetIncomplete
        cost := (fdViterbi p x .p3 420 206).cost
        event := frameEvent t (fdViterbi p x .p3 420 206).cost fd.lsf.toList
          (bytesOfBits (fdViterbi p x .p3 420 206).bits) } :=
  if_neg h

end

/-! ### The statements -/

theorem length_bytesOfBits_fdViterbi_le (p : Params) (x : List Llr) (m : MaskSel) (coded data : Nat) :
    (bytesOfBits (fdViterbi p x m coded data).bits).length ≤ (data + 7) / 8 := by
  have hbits : (fdViterbi p x m coded data).bits.length ≤ data := by
    rw [fdViterbi, viterbi_bits]
    exact List.length_take_le _ _
  rw [bytesOfBits_length]
  omega

theorem length_lichBytes (x : List Llr) : (lichBytes x).length = 6 := by
  rw [lichBytes, bytesOfBits_length]
  simp [List.range_succ]

/-- Rule R87: the event of a decode carries the cost and the LSF that the decode leaves, and at most 26 bytes more. -/
theorem fdDispatch_event (p : Params) (sync : SyncType) (acc : Bool) {x : List Llr} (hx : x.length = 368) (fd : Fd)
    (vit : Vit) :
    (fdDispatch p sync acc x fd vit).event = [] ∨
      ∃ t variant, variant.length ≤ 26 ∧ (fdDispatch p sync acc x fd vit).event =
        frameEvent t (fdDispatch p sync acc x fd vit).cost (fdDispatch p sync acc x fd vit).fd.lsf.toList variant := by
  have hlsf : (fdLsf p x fd vit).event = [] ∨ ∃ t variant, variant.length ≤ 26 ∧ (fdLsf p x fd vit).event =
      frameEvent t (fdLsf p x fd vit).cost (fdLsf p x fd vit).fd.lsf.toList variant := by
    by_cases h : crc16 (lsfBytes p x) = 0
    · exact .inr ⟨.lsf, [], Nat.zero_le _, by rw [fdLsf_of_good p x fd vit h, toList_lsfBytes]⟩
    · exact .inl (by rw [fdLsf_of_bad p x fd vit h])
  have hlich : (fdLich x fd vit).event = [] ∨ ∃ t variant, variant.length ≤ 26 ∧ (fdLich x fd vit).event =
      frameEvent t (fdLich x fd vit).cost (fdLich x fd vit).fd.lsf.toList variant := by
    cases hb : lichGolay x with
    | none => exact .inl (by rw [fdLich_of_none x fd vit hb])
    | some b =>
      have hlen : b.length ≤ 26 := by
        rw [lichGolay_eq hx] at hb
        split at hb
        · cases hb
        · rw [← Option.some.inj hb, length_lichBytes]
          omega
      by_cases hn : 5 < lichNumber b
      · exact .inl (by rw [fdLich_of_badNumber fd vit hb hn])
      by_cases hmask : fd.lichMask ||| (1#6 <<< lichNumber b) = 0x3F
      · by_cases hcrc : crc16 (storeFragment (lichNumber b) b fd.lsf).toList = 0
        · exact .inr ⟨.lsf, [], Nat.zero_le _, by rw [fdLich_of_good fd vit hb hn hmask hcrc]⟩
        · exact .inr ⟨.lich, b, hlen, by rw [fdLich_of_bad fd vit hb hn hmask hcrc]⟩
      · exact .inr ⟨.lich, b, hlen, by rw [fdLich_of_incomplete fd vit hb hn hmask]⟩
  have hpacket (t : FrameType) : ∃ t' variant, variant.length ≤ 26 ∧ (fdPacket p t acc x fd vit).event =
      frameEvent t' (fdPacket p t acc x fd vit).cost (fdPacket p t acc x fd vit).fd.lsf.toList variant := by
    have hlen := length_bytesOfBits_fdViterbi_le p x .p3 420 206
    rw [fdPacket]
    split <;> exact ⟨t, _, hlen, rfl⟩
  unfold fdDispatch
  split
  · exact hlsf
  · exact hlich
  · have hlen := length_bytesOfBits_fdViterbi_le p (x.drop 96) .p2 296 144
    rw [fdStream]
    split <;> exact .inr ⟨.stream, _, hlen.trans (by omega), rfl⟩
  · exact .inr (hpacket .basicPacket)
  · exact .inr (hpacket .fullPacket)
  · exact .inr ⟨.bert, _, (length_bytesOfBits_fdViterbi_le p x .p2 402 197).trans (by omega), rfl⟩
  · exact .inl rfl
  · exact .inl rfl

theorem length_fdFrame (p : Params) (f : List Llr) : (fdFrame p f).length = 368 :=
  length_deinterleave 0 _

theorem exec_fdDecode {accept : Bool} {sync : SyncType} {f : List Byte} (hrange : ∀ b ∈ f, inLlrRange b) {s : State}
    {o : FdOut} (ho : o = fdDecode m17core sync accept (f.map fun b => b.toInt) s.fd s.vit) :
    exec (.fdDecode accept sync f) s = .next { s with
      fd := o.fd, vit := o.vit
      rsp := s.rsp ++ (o.event ++ [0x88#8 ++ resultCode o.result ++ 1#16, BitVec.ofNat 32 o.cost]) } := by
  simp only [exec, execFdDecode, execFdDecodeFor, llrsOf_of_inRange hrange, ← ho, ← List.append_assoc]
  rfl

/-- Settles O49: the event is that of the path taken (`fdDispatch_event`). -/
theorem fdDecodeChangesOnlyDecoder : Obligations.FdDecodeChangesOnlyDecoder :=
  fun _ _ _ _ _ hrange => ⟨_, rfl, rfl,
    (fdDispatch_event _ _ _ (length_fdFrame _ _) _ _).imp_right fun ⟨t, variant, _, h⟩ => ⟨t, variant, h⟩,
    exec_fdDecode hrange rfl⟩

/-! ### The rows of the result table -/

/-- Rule R240: the cost of the decode is left in `FD.cost`. -/
def FdOut.withCost (o : FdOut) : FdOut :=
  { o with fd := { o.fd with cost := o.cost } }

theorem FdOut.withCost_congr {o o' : FdOut} (h : o = o') : o.withCost = o'.withCost :=
  congrArg _ h

theorem fdDecode_eq (p : Params) (sync : SyncType) (acc : Bool) (f : List Llr) (fd : Fd) (vit : Vit) :
    fdDecode p sync acc f fd vit = (fdDispatch p sync acc (fdFrame p f) fd vit).withCost := rfl

section
variable (p : Params) (x : List Llr) (fd : Fd) (vit : Vit)

/-- The LSF path. -/
theorem fdLsf_row :
    let d := (fdLsf p x fd vit).withCost
    (d.cost = (fdViterbi p x .p1 488 240).cost ∧ d.vit = vit.after (fdViterbi p x .p1 488 240)) ∧
    (if crc16 (lsfBytes p x) = 0 then
      d.result = .ok ∧ d.fd.lsf.toList = lsfBytes p x ∧ d.fd.state = p.lsfClass (lsfBytes p x) ∧
        d.fd.lichMask = fd.lichMask ∧ d.event = frameEvent .lsf d.cost d.fd.lsf.toList []
     else
      d.result = .fail ∧ d.fd.lsf = Vector.replicate 30 0 ∧ d.fd.state = .lsf ∧ d.fd.lichMask = 0 ∧ d.event = []) := by
  intro d
  by_cases h : crc16 (lsfBytes p x) = 0
  · rw [if_pos h, show d = _ from FdOut.withCost_congr (fdLsf_of_good p x fd vit h), FdOut.withCost, toList_lsfBytes]
    exact ⟨⟨rfl, rfl⟩, rfl, rfl, rfl, rfl, rfl⟩
  · rw [if_neg h, show d = _ from FdOut.withCost_congr (fdLsf_of_bad p x fd vit h)]
    exact ⟨⟨rfl, rfl⟩, rfl, rfl, rfl, rfl, rfl⟩

/-- The stream path. -/
theorem fdStream_row :
    let d := (fdStream p x fd vit).withCost
    let v := fdViterbi p (x.drop 96) .p2 296 144
    (d.cost = v.cost ∧ d.vit = vit.after v) ∧ (d.fd.lsf = fd.lsf ∧ d.fd.lichMask = fd.lichMask) ∧
    d.event = frameEvent .stream d.cost d.fd.lsf.toList (bytesOfBits v.bits) ∧
    (if ((bytesOfBits v.bits).getD 0 0).getLsbD 7 ∧ d.cost < 60 then d.result = .eos ∧ d.fd.state = .lsf
     else d.result = .ok ∧ d.fd.state = fd.state) := by
  intro d v
  by_cases h : ((bytesOfBits v.bits).getD 0 0).getLsbD 7 = true ∧ v.cost < 60
  · rw [show d = _ from FdOut.withCost_congr (fdStream_of_end p x fd vit h)]
    exact ⟨⟨rfl, rfl⟩, ⟨rfl, rfl⟩, rfl, (if_pos h).symm ▸ ⟨rfl, rfl⟩⟩
  · rw [show d = _ from FdOut.withCost_congr (fdStream_of_notEnd p x fd vit h)]
    exact ⟨⟨rfl, rfl⟩, ⟨rfl, rfl⟩, rfl, (if_neg h).symm ▸ ⟨rfl, rfl⟩⟩

/-- The packet paths. -/
theorem fdPacket_row (t : FrameType) (acc : Bool) :
    let d := (fdPacket p t acc x fd vit).withCost
    let v := fdViterbi p x .p3 420 206
    (d.cost = v.cost ∧ d.vit = vit.after v) ∧ (d.fd.lsf = fd.lsf ∧ d.fd.lichMask = fd.lichMask) ∧
    (bytesOfBits v.bits).length = 26 ∧ d.event = frameEvent t d.cost d.fd.lsf.toList (bytesOfBits v.bits) ∧
    (if ((bytesOfBits v.bits).getD 25 0).getLsbD 7 then d.result = (if acc then .ok else .fail) ∧ d.fd.state = .lsf
     else d.result = .packetIncomplete ∧ d.fd.state = fd.state) := by
  intro d v
  have hlen : (bytesOfBits v.bits).length = 26 := by
    rw [bytesOfBits_length, length_fdViterbi_bits p x .p3 (steps := 210) rfl (by omega)]
  by_cases h : ((bytesOfBits v.bits).getD 25 0).getLsbD 7 = true
  · rw [if_pos h, show d = _ from FdOut.withCost_congr (fdPacket_of_last p x fd vit t acc h)]
    exact ⟨⟨rfl, rfl⟩, ⟨rfl, rfl⟩, hlen, rfl, rfl, rfl⟩
  · rw [if_neg h, show d = _ from FdOut.withCost_congr (fdPacket_of_notLast p x fd vit t acc h)]
    exact ⟨⟨rfl, rfl⟩, ⟨rfl, rfl⟩, hlen, rfl, rfl, rfl⟩

/-- The LICH path. -/
theorem fdLich_row (hx : x.length = 368) (hstate : fd.state = .lsf) :
    let d := (fdLich x fd vit).withCost
    let n := lichNumber (lichBytes x)
    let mask := fd.lichMask ||| (1#6 <<< n)
    d.cost = 0 ∧ d.vit = vit ∧
    (if lichData x 0 = none ∨ lichData x 1 = none ∨ lichData x 2 = none ∨ lichData x 3 = none ∨ 5 < n then
      d.result = .fail ∧ d.event = [] ∧ d.fd.state = .lsf ∧ d.fd.lsf = fd.lsf ∧ d.fd.lichMask = fd.lichMask
     else
      (∀ k : Fin 30, d.fd.lsf[k] = if k.val / 5 = n then (lichBytes x).getD (k.val % 5) 0 else fd.lsf[k]) ∧
      (if mask ≠ 0x3F then
        d.result = .incomplete ∧ d.fd.state = .lsf ∧ d.fd.lichMask = mask ∧
          d.event = frameEvent .lich d.cost d.fd.lsf.toList (lichBytes x)
       else if crc16 d.fd.lsf.toList = 0 then
        d.result = .ok ∧ d.fd.state = .stream ∧ d.fd.lichMask = 0 ∧ d.event = frameEvent .lsf d.cost d.fd.lsf.toList []
       else
        d.result = .fail ∧ d.fd.state = .lsf ∧ d.fd.lichMask = 0x3F ∧
          d.event = frameEvent .lich d.cost d.fd.lsf.toList (lichBytes x))) := by
  intro d n mask
  have hgolay := lichGolay_eq hx
  by_cases hnone : lichData x 0 = none ∨ lichData x 1 = none ∨ lichData x 2 = none ∨ lichData x 3 = none
  · rw [if_pos (by tauto), show d = _ from FdOut.withCost_congr (fdLich_of_none x fd vit (by rw [hgolay, if_pos hnone]))]
    exact ⟨rfl, rfl, rfl, rfl, hstate, rfl, rfl⟩
  have hsome : lichGolay x = some (lichBytes x) := by rw [hgolay, if_neg hnone]
  by_cases hn : 5 < n
  · rw [if_pos (by tauto), show d = _ from FdOut.withCost_congr (fdLich_of_badNumber fd vit hsome hn)]
    exact ⟨rfl, rfl, rfl, rfl, hstate, rfl, rfl⟩
  rw [if_neg (by tauto)]
  by_cases hmask : mask = 0x3F
  · rw [if_neg (not_not.2 hmask)]
    by_cases hcrc : crc16 (storeFragment n (lichBytes x) fd.lsf).toList = 0
    · rw [show d = _ from FdOut.withCost_congr (fdLich_of_good fd vit hsome hn hmask hcrc)]
      exact ⟨rfl, rfl, getElem_storeFragment (lichBytes x) fd.lsf, (if_pos hcrc).symm ▸ ⟨rfl, rfl, rfl, rfl⟩⟩
    · rw [show d = _ from FdOut.withCost_congr (fdLich_of_bad fd vit hsome hn hmask hcrc)]
      exact ⟨rfl, rfl, getElem_storeFragment (lichBytes x) fd.lsf, (if_neg hcrc).symm ▸ ⟨rfl, hstate, rfl, rfl⟩⟩
  · rw [if_pos hmask, show d = _ from FdOut.withCost_congr (fdLich_of_incomplete fd vit hsome hn hmask)]
    exact ⟨rfl, rfl, getElem_storeFragment (lichBytes x) fd.lsf, rfl, hstate, rfl, rfl⟩

end

/-- Settles O50: the row of the path that the sync type and the state select. -/
theorem fdDecodeFollowsResultTable : Obligations.FdDecodeFollowsResultTable := by
  intro sync accept f fd vit o x decoded costs event keeps packet
  have hx : x.length = 368 := length_deinterleave 0 _
  have ho : o = (fdDispatch m17core sync accept x fd vit).withCost := fdDecode_eq m17core sync accept f fd vit
  clear_value o x
  refine ⟨by rw [ho]; rfl, ?_⟩
  have hmismatch (ho : o = (fdMismatch fd vit).withCost) :
      o.result = .fail ∧ o.cost = 0 ∧ o.event = [] ∧ o.vit = vit ∧ o.fd.state = .lsf ∧ keeps := by
    simp only [keeps, ho]
    exact ⟨rfl, rfl, rfl, rfl, rfl, rfl, rfl⟩
  have hbytes {coded data n : Nat} (l : List Llr) (m : MaskSel) (h : coded = 2 * (coded / 2)) (hle : data ≤ coded / 2)
      (hn : (data + 7) / 8 = n) : (bytesOfBits (decoded l m coded data).bits).length = n := by
    rw [bytesOfBits_length, show (decoded l m coded data).bits.length = data from length_fdViterbi_bits m17core l m h hle, hn]
  cases sync with
  | lsf =>
    obtain ⟨hcosts, hresult⟩ := fdLsf_row m17core x fd vit
    obtain rfl : o = (fdLsf m17core x fd vit).withCost := ho
    exact ⟨hcosts, length_lsfBytes m17core x, hresult⟩
  | bert =>
    subst ho
    exact ⟨⟨rfl, rfl⟩, ⟨rfl, rfl⟩, hbytes x .p2 rfl (by omega) rfl, rfl, rfl, rfl⟩
  | stream =>
    obtain ⟨state, lichMask, lsf, cost, crc⟩ := fd
    cases state with
    | lsf =>
      obtain rfl : o = (fdLich x ⟨.lsf, lichMask, lsf, cost, crc⟩ vit).withCost := ho
      exact fdLich_row x ⟨.lsf, lichMask, lsf, cost, crc⟩ vit hx rfl
    | stream =>
      obtain ⟨hcosts, hkeeps, hevent, hresult⟩ := fdStream_row m17core x ⟨.stream, lichMask, lsf, cost, crc⟩ vit
      obtain rfl : o = (fdStream m17core x ⟨.stream, lichMask, lsf, cost, crc⟩ vit).withCost := ho
      exact ⟨hcosts, hkeeps, hbytes _ .p2 rfl (by omega) rfl, hevent, hresult⟩
    | basicPacket | fullPacket | bert => exact hmismatch ho
  | packet =>
    have hpacket (t : FrameType) (ho : o = (fdPacket m17core t accept x fd vit).withCost) : packet t fd.state := by
      subst ho
      exact fdPacket_row m17core x fd vit t accept
    obtain ⟨state, lichMask, lsf, cost, crc⟩ := fd
    cases state with
    | basicPacket => exact hpacket .basicPacket ho
    | fullPacket => exact hpacket .fullPacket ho
    | lsf | stream | bert => exact hmismatch ho

end Sys2Proof.Machine

/-! SUPPORT. A punctured codeword received (spec/43_viterbi.md rule R167, spec/49_encode_path.md rule R313): what depuncturing
a punctured codeword writes, that no path but the one sent is free of cost on it, for each of the four block formats, and so
that its decode has cost 0 and gives back the data. -/

namespace Sys2Proof.Machine

open Sys2Proof

/-! ### What is left of a codeword -/

/-- Which of `n` bits puncturing keeps, from mask position `p` on. -/
def keptFlags (m : List Bool) : Nat → Nat → Nat → List Bool
  | _, _, 0 => []
  | p, cap, n + 1 =>
    if m.getD p false && decide (0 < cap) then true :: keptFlags m ((p + 1) % m.length) (cap - 1) n
    else false :: keptFlags m ((p + 1) % m.length) cap n

@[simp] theorem length_keptFlags (m : List Bool) (p cap n : Nat) : (keptFlags m p cap n).length = n := by
  induction n generalizing p cap with
  | zero => rfl
  | succ n ih =>
    rw [keptFlags]
    split <;> rw [List.length_cons, ih]

/-- The full-scale LLRs of the kept bits, erasures for the others. -/
def erased (flags c : List Bool) : List Llr :=
  List.zipWith (fun k b => if k then soft b else 0) flags c

theorem erased_cons (k b : Bool) (flags c : List Bool) :
    erased (k :: flags) (b :: c) = (if k then soft b else 0) :: erased flags c := rfl

theorem length_erased {flags c : List Bool} (h : flags.length = c.length) : (erased flags c).length = c.length := by
  rw [erased, List.length_zipWith, h, Nat.min_self]

theorem punctureFrom_zero {α : Type} (m : List Bool) (p : Nat) (xs : List α) : punctureFrom m p 0 xs = [] := by
  cases xs <;> rfl

/-- Where nothing is read, depuncturing erases. -/
theorem depunctureFrom_of_not_kept (m : List Bool) {p : Nat} (h : m.getD p false = false) (n : Nat) (ys : List Llr) :
    depunctureFrom 0 m p (n + 1) ys = 0 :: depunctureFrom 0 m ((p + 1) % m.length) n ys := by
  cases ys with
  | nil => rfl
  | cons y ys => rw [depunctureFrom, h]; rfl

theorem depunctureFrom_punctureFrom (m c : List Bool) (p cap : Nat) :
    depunctureFrom 0 m p c.length ((punctureFrom m p cap c).map soft) = erased (keptFlags m p cap c.length) c := by
  induction c generalizing p cap with
  | nil => cases cap <;> rfl
  | cons b c ih =>
    rw [List.length_cons, keptFlags]
    cases cap with
    | zero =>
      have hrest := ih ((p + 1) % m.length) 0
      rw [punctureFrom_zero] at hrest
      rw [punctureFrom, List.map_nil, depunctureFrom, decide_eq_false (Nat.lt_irrefl 0), Bool.and_false,
        if_neg Bool.false_ne_true, erased_cons, ← hrest]
      rfl
    | succ cap =>
      rw [punctureFrom, decide_eq_true (Nat.succ_pos cap), Bool.and_true]
      cases hkept : m.getD p false
      · rw [if_neg Bool.false_ne_true, if_neg Bool.false_ne_true, depunctureFrom_of_not_kept m hkept, erased_cons, ih]
        rfl
      · rw [if_pos rfl, if_pos rfl, List.map_cons, depunctureFrom, hkept, if_pos rfl, erased_cons, ih]
        rfl

theorem depuncture_puncture_eq_erased (m c : List Bool) (cap : Nat) :
    depuncture ((puncture c m cap).map soft) m c.length = erased (keptFlags m 0 cap c.length) c :=
  depunctureFrom_punctureFrom m c 0 cap

theorem llrList_erased (flags c : List Bool) : LlrList (erased flags c) := by
  intro v hv
  obtain ⟨⟨k, b⟩, -, rfl⟩ := List.mem_map.1 (show v ∈ (flags.zip c).map fun p => if p.1 then soft p.2 else 0 by
    rwa [List.map_zip_eq_zipWith])
  cases k
  · exact Nat.zero_le _
  · exact (natAbs_soft b).le

/-! ### Paths that cost nothing -/

/-- The step of `s` with input `b` codes only zeros where it is heard. -/
def quietStep (k0 k1 : Bool) (s : BitVec 4) (b : Bool) : Bool :=
  !(k0 && (convStep s b).1) && !(k1 && (convStep s b).2.1)

/-- The path `bs` from `s` codes only zeros where it is heard. -/
def quietPath : List Bool → BitVec 4 → List Bool → Bool
  | k0 :: k1 :: ks, s, b :: bs => quietStep k0 k1 s b && quietPath ks (vitNext s b) bs
  | _, _, _ => true

/-- Some quiet path leads from `s` to state 0 at the end. -/
def canReturn : List Bool → BitVec 4 → Bool
  | k0 :: k1 :: ks, s => (quietStep k0 k1 s false && canReturn ks (vitNext s false)) ||
      (quietStep k0 k1 s true && canReturn ks (vitNext s true))
  | _, s => decide (s = 0)

/-- At every step, a quiet path that leaves state 0 does not return to it. -/
def deadEnds : List Bool → Bool
  | k0 :: k1 :: ks => !(quietStep k0 k1 0 true && canReturn ks (vitNext 0 true)) && deadEnds ks
  | _ => true

theorem canReturn_of_quietPath {flags bs : List Bool} (hlen : flags.length = 2 * bs.length) {s : BitVec 4}
    (hquiet : quietPath flags s bs = true) (hend : pathEnd s bs = 0) : canReturn flags s = true := by
  induction bs generalizing flags s with
  | nil =>
    rw [List.length_eq_zero_iff.1 hlen]
    exact decide_eq_true hend
  | cons b bs ih =>
    match flags, hlen with
    | k0 :: k1 :: ks, hlen =>
      have hks : ks.length = 2 * bs.length := by simp only [List.length_cons] at hlen; omega
      rw [quietPath, Bool.and_eq_true] at hquiet
      obtain ⟨hstep, hrest⟩ := hquiet
      have hreturn := ih hks hrest hend
      cases b <;> simp [canReturn, hstep, hreturn]

theorem eq_false_of_quietPath {flags bs : List Bool} (hdead : deadEnds flags = true) (hlen : flags.length = 2 * bs.length)
    (hquiet : quietPath flags 0 bs = true) (hend : pathEnd 0 bs = 0) : ∀ b ∈ bs, b = false := by
  induction bs generalizing flags with
  | nil => exact fun b hb => absurd hb List.not_mem_nil
  | cons b bs ih =>
    match flags, hlen with
    | k0 :: k1 :: ks, hlen =>
      have hks : ks.length = 2 * bs.length := by simp only [List.length_cons] at hlen; omega
      rw [quietPath, Bool.and_eq_true] at hquiet
      rw [deadEnds, Bool.and_eq_true] at hdead
      obtain ⟨hstep, hrest⟩ := hquiet
      obtain ⟨hdead, hdeadRest⟩ := hdead
      have hb : b = false := by
        by_contra hb
        rw [Bool.not_eq_false] at hb
        subst hb
        rw [hstep, canReturn_of_quietPath hks hrest hend] at hdead
        cases hdead
      subst hb
      exact List.forall_mem_cons.2 ⟨rfl, ih hdeadRest hks hrest hend⟩

theorem heard_of_halfCost_eq_zero (k a b : Bool) (h : halfCost (soft a) (if k then soft b else 0) = 0) :
    (k && (a ^^ b)) = false := by
  revert k a b
  decide

/-- Two paths whose heard bits agree differ by a quiet path. -/
theorem quietPath_of_receivedCost_eq_zero {flags bs cs : List Bool} (hlen : bs.length = cs.length)
    (hflags : flags.length = 2 * bs.length) (s t : BitVec 4)
    (h : receivedCost (convRun s bs).1 (erased flags (convRun t cs).1) = 0) :
    quietPath flags (s ^^^ t) (List.zipWith (· ^^ ·) bs cs) = true := by
  induction bs generalizing cs flags s t with
  | nil => cases flags with
    | nil => rfl
    | cons k0 ks => cases hflags
  | cons b bs ih =>
    obtain ⟨c, cs, rfl⟩ := List.exists_cons_of_length_eq_add_one hlen.symm
    match flags, hflags with
    | k0 :: k1 :: ks, hflags =>
      have hks : ks.length = 2 * bs.length := by simp only [List.length_cons] at hflags; omega
      rw [convRun_cons, convRun_cons, erased_cons, erased_cons] at h
      simp only [receivedCost, List.zip_cons_cons, List.map_cons, List.sum_cons, Nat.add_eq_zero_iff] at h
      obtain ⟨h0, h1, hrest⟩ := h
      obtain ⟨hx0, hx1⟩ := convStep_xor s t b c
      rw [List.zipWith_cons_cons, quietPath, quietStep, hx0, hx1, heard_of_halfCost_eq_zero _ _ _ h0,
        heard_of_halfCost_eq_zero _ _ _ h1, vitNext_xor, ih (Nat.succ.inj hlen) hks _ _ hrest]
      rfl

theorem pathEnd_zipWith (s t : BitVec 4) {bs cs : List Bool} (h : bs.length = cs.length) :
    pathEnd (s ^^^ t) (List.zipWith (· ^^ ·) bs cs) = pathEnd s bs ^^^ pathEnd t cs := by
  induction bs generalizing cs s t with
  | nil => rw [List.length_eq_zero_iff.1 h.symm]; rfl
  | cons b bs ih =>
    obtain ⟨c, cs, rfl⟩ := List.exists_cons_of_length_eq_add_one h.symm
    have hrest := ih (vitNext s b) (vitNext t c) (Nat.succ.inj h)
    rw [← vitNext_xor] at hrest
    exact hrest

theorem eq_of_zipWith_xor_eq_false {bs cs : List Bool} (hlen : bs.length = cs.length)
    (h : ∀ b ∈ List.zipWith (· ^^ ·) bs cs, b = false) : bs = cs := by
  induction bs generalizing cs with
  | nil => exact (List.length_eq_zero_iff.1 hlen.symm).symm
  | cons b bs ih =>
    obtain ⟨c, cs, rfl⟩ := List.exists_cons_of_length_eq_add_one hlen.symm
    obtain ⟨hb, hrest⟩ := List.forall_mem_cons.1 h
    rw [bne_eq_false_iff_eq.1 hb, ih (Nat.succ.inj hlen) hrest]

/-! ### The decode of a punctured codeword -/

section
variable {x flags : List Bool} (hx : x.length ≤ 240) (hflags : flags.length = 2 * (x.length + 4))

include hflags

theorem length_erased_convEncode : (erased flags (convEncode x)).length = 2 * (flushed x).length := by
  rw [length_erased (by rw [hflags, length_convEncode]), length_convEncode, length_flushed]

/-- The path sent costs nothing. -/
theorem pathMetricOf_erased : pathMetricOf 0 (flushed x) (erased flags (convEncode x)) = 0 := by
  have hsigns : ∀ p ∈ (convEncode x).zip (erased flags (convEncode x)),
      p.2 = soft p.1 ∨ p.2 = 0 := by
    have hgen (ks c : List Bool) : ∀ p ∈ c.zip (erased ks c), p.2 = soft p.1 ∨ p.2 = 0 := by
      induction c generalizing ks with
      | nil => exact fun p hp => absurd hp List.not_mem_nil
      | cons b c ih =>
        cases ks with
        | nil => exact fun p hp => absurd hp List.not_mem_nil
        | cons k ks =>
          rw [erased_cons, List.zip_cons_cons]
          refine List.forall_mem_cons.2 ⟨?_, ih ks⟩
          cases k
          · exact .inr rfl
          · exact .inl rfl
    exact hgen flags _
  rw [pathMetricOf_eq_receivedCost (length_erased_convEncode hflags), ← convEncode_eq, receivedCost, List.sum_eq_zero_iff]
  intro v hv
  obtain ⟨p, hp, rfl⟩ := List.mem_map.1 hv
  rcases hsigns p hp with hbit | herased
  · rw [hbit, halfCost_soft_self]
  · rw [herased, halfCost_zero]

theorem minMetric_erased (k : Nat) : (viterbi (erased flags (convEncode x)) k).minMetric = 0 :=
  Nat.le_zero.1 ((minMetric_le (length_erased_convEncode hflags) rfl k).trans_eq (pathMetricOf_erased hflags))

theorem bestState_erased : bestState (acsRun vitInit (erased flags (convEncode x))).1 = 0 := by
  have hend : pathEnd 0 (flushed x) = 0 := (convRun_memory 0 (flushed x)).symm.trans (convBlock_memory x)
  have hle := acsRun_le (length_erased_convEncode hflags) vitInit 0
  rw [hend, getD_vitInit_zero, pathMetricOf_erased hflags] at hle
  exact bestState_eq_zero (Nat.le_zero.1 hle)

include hx

/-- Where no quiet path leaves state 0 and returns, the path decoded is the one sent. -/
theorem decodedPath_erased (hdead : deadEnds flags = true) : decodedPath (erased flags (convEncode x)) = flushed x := by
  obtain ⟨l, hl⟩ : ∃ l, l = erased flags (convEncode x) := ⟨_, rfl⟩
  have hlen : l.length = 2 * (flushed x).length := hl ▸ length_erased_convEncode hflags
  have hpath : (decodedPath l).length = (flushed x).length := length_decodedPath hlen
  have hflags' : flags.length = 2 * (decodedPath l).length := by rw [hpath, hflags, length_flushed]
  have hmin : (viterbi l 0).minMetric = 0 := hl ▸ minMetric_erased hflags 0
  have hbest : bestState (acsRun vitInit l).1 = 0 := hl ▸ bestState_erased hflags
  have hfree : pathMetricOf 0 (decodedPath l) l = 0 := by
    have hsteps : (flushed x).length ≤ 244 := by rw [length_flushed]; omega
    rw [pathMetricOf_decodedPath hlen (hl ▸ llrList_erased _ _) hsteps 0, hmin]
  obtain ⟨hend, hmetric⟩ := acsRun_survivor vitInit l (bestState (acsRun vitInit l).1) _ hlen
  have hstart : (survivor (acsRun vitInit l).2 (bestState (acsRun vitInit l).1)).1 = 0 := by
    by_contra hne
    have hzero : (acsRun vitInit l).1.getD (bestState (acsRun vitInit l).1).toNat 0 = 0 := hmin
    rw [getD_vitInit_of_ne hne] at hmetric
    omega
  have hreturn : pathEnd 0 (decodedPath l) = 0 := by
    rw [hstart, hbest] at hend
    rw [decodedPath, hbest]
    exact hend
  have hsent : pathEnd 0 (flushed x) = 0 := (convRun_memory 0 (flushed x)).symm.trans (convBlock_memory x)
  rw [pathMetricOf_eq_receivedCost (by rw [hlen, hpath])] at hfree
  have hquiet := quietPath_of_receivedCost_eq_zero hpath hflags' 0 0 (by rw [← convEncode_eq, ← hl]; exact hfree)
  have hdiff := pathEnd_zipWith 0 0 hpath
  rw [hreturn, hsent, BitVec.xor_self] at hdiff
  rw [BitVec.xor_self] at hquiet
  rw [← hl]
  exact eq_of_zipWith_xor_eq_false hpath (eq_false_of_quietPath hdead (by rw [List.length_zipWith, ← hpath, Nat.min_self, hflags'])
    hquiet hdiff)

end

/-! ### The four block formats -/

/-- A punctured codeword decodes to its data with cost 0 when no quiet path leaves state 0 and returns. -/
theorem viterbi_punctured {x : List Bool} (hx : x.length ≤ 240) (m : List Bool) (cap : Nat)
    (hdead : deadEnds (keptFlags m 0 cap (2 * (x.length + 4))) = true) :
    let v := viterbi (depuncture ((puncture (convEncode x) m cap).map soft) m (2 * (x.length + 4))) x.length
    v.cost = 0 ∧ v.bits = x := by
  have herased := depuncture_puncture_eq_erased m (convEncode x) cap
  rw [length_convEncode] at herased
  have hflags : (keptFlags m 0 cap (2 * (x.length + 4))).length = 2 * (x.length + 4) := length_keptFlags m 0 cap _
  rw [herased]
  refine ⟨?_, ?_⟩
  · rw [viterbi_cost, minMetric_erased hflags]
  · rw [viterbi_bits, decodedPath_erased hx hflags hdead, flushed, List.take_left]

theorem deadEnds_lsf : deadEnds (keptFlags (m17core.mask .p1) 0 368 488) = true := by
  decide +kernel

theorem deadEnds_stream : deadEnds (keptFlags (m17core.mask .p2) 0 272 296) = true := by
  decide +kernel

theorem deadEnds_packet : deadEnds (keptFlags (m17core.mask .p3) 0 368 420) = true := by
  decide +kernel

theorem deadEnds_bert : deadEnds (keptFlags (m17core.mask .p2) 0 368 402) = true := by
  decide +kernel


end Sys2Proof.Machine

/-! SUPPORT. The encode path (spec/49_encode_path.md rules R306 to R314): how the last two stages of a frame undo, the LICH as
four codewords, the frames the five builders answer with, and what FD_DECODE makes of them (rule R313). -/

namespace Sys2Proof.Machine

open Sys2Proof

/-! ### Scrambling and interleaving, and back -/

section
variable {bits : List Bool} (h : bits.length = 368)
include h

theorem length_interleave_le : (interleave false bits).length ≤ 8 * m17core.randSeq.length :=
  (length_interleave false h).trans randSeq_bits.symm |>.le

theorem length_finishFrame : (finishFrame m17core bits).length = 368 := by
  rw [finishFrame, length_randomize (length_interleave_le h), length_interleave false h]

theorem deinterleave_randomize_finishFrame :
    deinterleave false (randomize m17core.randSeq (finishFrame m17core bits)) = bits := by
  rw [finishFrame, randomize_randomize (length_interleave_le h), deinterleave_interleave false h]

omit h in
/-- In a whole frame no position is filled. -/
theorem deinterleave_congr {α : Type} (d d' : α) {y : List α} (hy : y.length = 368) :
    deinterleave d y = deinterleave d' y := by
  refine List.ext_getElem (by rw [length_deinterleave, length_deinterleave]) fun i hi _ => ?_
  have h368 : i < 368 := (length_deinterleave d y) ▸ hi
  have hpos : ilvIndex i < y.length := (ilvIndex_lt h368).trans_eq hy.symm
  rw [getElem_deinterleave, getElem_deinterleave, List.getD_eq_getElem _ _ hpos, List.getD_eq_getElem _ _ hpos]

/-- The first two stages of a decode undo the last two of a frame received without errors. -/
theorem fdFrame_finishFrame : fdFrame m17core ((finishFrame m17core bits).map soft) = bits.map soft := by
  rw [fdFrame, derandomize_map_soft, finishFrame, randomize_randomize (length_interleave_le h),
    deinterleave_congr 0 (soft false) (by rw [List.length_map, length_interleave false h]), deinterleave_map,
    deinterleave_interleave false h]

end

/-! ### Bits of bytes that are cut -/

theorem bytesOfBits_bitsOfBytes_append (bytes : List Byte) (rest : List Bool) :
    bytesOfBits (bitsOfBytes bytes ++ rest) = bytes ++ bytesOfBits rest := by
  induction bytes with
  | nil => rfl
  | cons b bytes ih =>
    rw [bytesOfBits, bitsOfBytes_cons, List.append_assoc, chunks_append (by decide) (length_bitsOf b), List.map_cons,
      byteOfBits_bitsOf]
    exact congrArg (b :: ·) ih

theorem bytesOfBits_eq_singleton {bs : List Bool} (h0 : bs ≠ []) (h : bs.length ≤ 8) : bytesOfBits bs = [byteOfBits bs] := by
  have hdrop : bs.drop 8 = [] := List.drop_eq_nil_of_le h
  rw [bytesOfBits, chunks_eq_take_cons (by decide) h0, hdrop, List.take_of_length_le h]
  rfl

/-- The first `n` bytes and `k` bits of the next one, as bytes. -/
theorem bytesOfBits_take {bytes : List Byte} {n k : Nat} (h : bytes.length = n + 1) (hk0 : 0 < k) (hk : k ≤ 8) :
    bytesOfBits ((bitsOfBytes bytes).take (8 * n + k)) =
      bytes.take n ++ [byteOfBits ((bitsOf (bytes.getD n 0)).take k)] := by
  have hsplit : bytes = bytes.take n ++ [bytes.getD n 0] := by
    rw [List.getD_eq_getElem _ _ (by omega), List.take_concat_get' _ _ (by omega), List.take_of_length_le h.le]
  have hlast : ((bitsOf (bytes.getD n 0)).take k).length = k := by
    rw [List.length_take, length_bitsOf, Nat.min_eq_left hk]
  have hbits : (bitsOfBytes bytes).take (8 * n + k) =
      bitsOfBytes (bytes.take n) ++ (bitsOf (bytes.getD n 0)).take k := by
    have hfirst : (bitsOfBytes (bytes.take n)).length = 8 * n := by
      rw [length_bitsOfBytes, List.length_take, h, Nat.min_eq_left (by omega)]
    conv_lhs => rw [hsplit, bitsOfBytes_append]
    rw [List.take_append, hfirst, Nat.add_sub_cancel_left, List.take_of_length_le (by omega), bitsOfBytes_cons]
    simp [bitsOfBytes]
  rw [hbits, bytesOfBits_bitsOfBytes_append, bytesOfBits_eq_singleton (List.ne_nil_of_length_pos (by omega)) (by omega)]

theorem byteOfBits_take_six (b : Byte) : byteOfBits ((bitsOf b).take 6) = b &&& 0xFC := by
  revert b
  decide +kernel

theorem byteOfBits_take_five (b : Byte) : byteOfBits ((bitsOf b).take 5) = b &&& 0xF8 := by
  revert b
  decide +kernel

/-! ### The LICH -/

theorem take_drop_flatMap {α β : Type} {k : Nat} {g : α → List β} {xs : List α} (hg : ∀ x ∈ xs, (g x).length = k)
    {c : Nat} (hc : c < xs.length) : ((xs.flatMap g).drop (k * c)).take k = g xs[c] := by
  induction xs generalizing c with
  | nil => exact absurd hc (Nat.not_lt_zero c)
  | cons x xs ih =>
    obtain ⟨hx, hxs⟩ := List.forall_mem_cons.1 hg
    rw [List.flatMap_cons]
    cases c with
    | zero => rw [Nat.mul_zero, List.drop_zero, List.take_left' hx]; rfl
    | succ c =>
      rw [Nat.mul_succ, Nat.add_comm, ← List.drop_drop, List.drop_left' hx, ih hxs]
      rfl

/-- The 48 data bits of the LICH: the fragment, its number, five zeros. -/
def lichBits (frag : List Byte) (n : BitVec 3) : List Bool :=
  bitsOfBytes frag ++ bitsOf n ++ List.replicate 5 false

theorem bitsOfBytes_fragment (frag : List Byte) (n : BitVec 3) :
    bitsOfBytes (frag ++ [n.setWidth 8 <<< 5]) = lichBits frag n := by
  have hsixth : bitsOfBytes [n.setWidth 8 <<< 5] = bitsOf n ++ List.replicate 5 false := by
    revert n
    decide
  rw [bitsOfBytes_append, hsixth, lichBits, List.append_assoc]

theorem length_golayBits (d : List Bool) : (golayBits d).length = 24 :=
  length_bitsOf _

section
variable {frag : List Byte} (h : frag.length = 5) (n : BitVec 3)
include h

theorem length_lichBits : (lichBits frag n).length = 12 * 4 := by
  simp [lichBits, h]

theorem encLich_eq :
    encLich frag n = (List.range 4).flatMap fun c => golayBits (((lichBits frag n).drop (12 * c)).take 12) := by
  rw [encLich, bitsOfBytes_fragment, chunks_eq_map_range (by decide) (length_lichBits h n), List.flatMap_map]

/-- Codeword `c` of the LICH. -/
theorem encLich_codeword {c : Nat} (hc : c < 4) :
    ((encLich frag n).drop (24 * c)).take 24 = golayBits (((lichBits frag n).drop (12 * c)).take 12) := by
  have hblock := take_drop_flatMap (xs := List.range 4) (c := c)
    (fun c _ => length_golayBits (((lichBits frag n).drop (12 * c)).take 12)) (by rwa [List.length_range])
  rw [encLich_eq h, hblock, List.getElem_range]

theorem length_encLich : (encLich frag n).length = 96 := by
  rw [encLich_eq h, List.length_flatMap]
  simp [length_golayBits, List.range_succ]

end

/-! ### What the builders answer -/

theorem length_puncture_convEncode (d : List Bool) (m : MaskSel) (cap : Nat)
    (hcap : cap ≤ keptCount (m17core.mask m) 0 (2 * (d.length + 4))) :
    (puncture (convEncode d) (m17core.mask m) cap).length = cap := by
  rw [length_puncture, length_convEncode, Nat.min_eq_left hcap]

/-- A record of the frame bits, the encoder left at 0. -/
theorem respondFrame_eq {frame : List Bool} (h : frame.length = 368) (op : BitVec 8) (s : State) :
    respondFrame op frame s =
      { s with cnvMem := 0, rsp := s.rsp ++ (BitVec.ofNat 32 (op.toNat * 2 ^ 24 + 12) :: packBits frame) } :=
  respond_frameBits h op { s with cnvMem := 0 }

theorem respond_lich {lich : List Bool} (h : lich.length = 96) (s : State) :
    respond 0xA1 statusOk (packBits lich) s = { s with rsp := s.rsp ++ (0xA1000003 :: packBits lich) } := by
  have hwords : (packBits lich).length = 3 := by rw [packBits_length, h]
  rw [respond, recordWords_ok hwords (by omega)]
  rfl

theorem keptCount_lsf : 368 ≤ keptCount (m17core.mask .p1) 0 488 := by decide +kernel

theorem keptCount_stream : 272 ≤ keptCount (m17core.mask .p2) 0 296 := by decide +kernel

theorem keptCount_packet : 368 ≤ keptCount (m17core.mask .p3) 0 420 := by decide +kernel

theorem keptCount_bert : 368 ≤ keptCount (m17core.mask .p2) 0 402 := by decide +kernel

/-- The coded bits of the four frames before the last two stages. -/
theorem length_lsfCoded {l : List Byte} (h : l.length = 30) :
    (puncture (convEncode (bitsOfBytes l)) (m17core.mask .p1) 368).length = 368 :=
  length_puncture_convEncode _ _ _ (by rw [length_bitsOfBytes, h]; exact keptCount_lsf)

theorem length_streamCoded {pay : List Byte} (h : pay.length = 18) :
    (puncture (convEncode (bitsOfBytes pay)) (m17core.mask .p2) 272).length = 272 :=
  length_puncture_convEncode _ _ _ (by rw [length_bitsOfBytes, h]; exact keptCount_stream)

theorem length_packetBits {pkt : List Byte} (h : pkt.length = 26) : ((bitsOfBytes pkt).take 206).length = 206 := by
  rw [List.length_take, length_bitsOfBytes, h]
  rfl

theorem length_packetCoded {pkt : List Byte} (h : pkt.length = 26) :
    (puncture (convEncode ((bitsOfBytes pkt).take 206)) (m17core.mask .p3) 368).length = 368 :=
  length_puncture_convEncode _ _ _ (by rw [length_packetBits h]; exact keptCount_packet)

theorem length_bertBits {bytes : List Byte} (h : bytes.length = 25) : ((bitsOfBytes bytes).take 197).length = 197 := by
  rw [List.length_take, length_bitsOfBytes, h]
  rfl

theorem length_bertCoded {bytes : List Byte} (h : bytes.length = 25) :
    (puncture (convEncode ((bitsOfBytes bytes).take 197)) (m17core.mask .p2) 368).length = 368 :=
  length_puncture_convEncode _ _ _ (by rw [length_bertBits h]; exact keptCount_bert)

theorem length_streamBits {lich pay : List Byte} (hl : lich.length = 12) (hp : pay.length = 18) :
    (bitsOfBytes lich ++ puncture (convEncode (bitsOfBytes pay)) (m17core.mask .p2) 272).length = 368 := by
  rw [List.length_append, length_bitsOfBytes, hl, length_streamCoded hp]

theorem exec_encLich {n : BitVec 3} (hn : n.toNat ≤ 5) (f : List Byte) (s : State) :
    exec (.encLich n f) s = .next (respond 0xA1 statusOk (packBits (encLich f n)) s) :=
  if_pos hn

/-- Settles O60: the last two stages undo (`deinterleave_randomize_finishFrame`) on frames of the right length. -/
theorem encodeOperationsBuildFrames : Obligations.EncodeOperationsBuildFrames := by
  unfold Obligations.EncodeOperationsBuildFrames
  intro undone
  have hframe {bits : List Bool} (h : bits.length = 368) (op : BitVec 8) (s : State) :
      (.next (respondFrame op (finishFrame m17core bits) s) : Result) = .next { s with
        cnvMem := 0
        rsp := s.rsp ++ (BitVec.ofNat 32 (op.toNat * 2 ^ 24 + 12) :: packBits (finishFrame m17core bits)) } :=
    congrArg Host.Outcome.next (respondFrame_eq (length_finishFrame h) op s)
  refine ⟨fun l s hl => ?lsf, fun n f s hf hn => ?lich, fun b s hb => ?stream, fun b s hb => ?packet, fun b s hb => ?bert⟩
  case lsf =>
    have hlen := length_lsfCoded hl
    exact ⟨encLsf m17core l, hframe hlen 0xA0 s, length_finishFrame hlen, deinterleave_randomize_finishFrame hlen⟩
  case lich =>
    refine ⟨encLich f n, ?_, length_encLich hf n, fun c hc => encLich_codeword hf n hc⟩
    rw [exec_encLich hn, respond_lich (length_encLich hf n)]
  case stream =>
    have hlen := length_streamBits (lich := b.take 12) (pay := b.drop 12) (by simp [hb]) (by simp [hb])
    exact ⟨encStream m17core (b.take 12) (b.drop 12), hframe hlen 0xA2 s, length_finishFrame hlen,
      deinterleave_randomize_finishFrame hlen⟩
  case packet =>
    have hlen := length_packetCoded hb
    exact ⟨encPacket m17core b, hframe hlen 0xA3 s, length_finishFrame hlen, deinterleave_randomize_finishFrame hlen⟩
  case bert =>
    have hlen := length_bertCoded hb
    exact ⟨encBert m17core b, hframe hlen 0xA4 s, length_finishFrame hlen, deinterleave_randomize_finishFrame hlen⟩

end Sys2Proof.Machine

/-! SUPPORT. The round trips of rule R313 (spec/49_encode_path.md): what each path of FD_DECODE makes of a frame built by the
encode path and received without errors. -/

namespace Sys2Proof.Machine

open Sys2Proof

/-! ### The Viterbi decodes -/

/-- A punctured codeword decodes to its data with cost 0, for the four block formats. -/
theorem fdViterbi_punctured {d : List Bool} {n coded : Nat} (hd : d.length = n) (hn : n ≤ 240) (m : MaskSel) (cap : Nat)
    (hcoded : coded = 2 * (n + 4)) (hdead : deadEnds (keptFlags (m17core.mask m) 0 cap coded) = true) :
    (fdViterbi m17core ((puncture (convEncode d) (m17core.mask m) cap).map soft) m coded n).cost = 0 ∧
      (fdViterbi m17core ((puncture (convEncode d) (m17core.mask m) cap).map soft) m coded n).bits = d := by
  subst hd hcoded
  exact viterbi_punctured hn (m17core.mask m) cap hdead

/-- A decode of a frame received without errors is the dispatch on its bits. -/
theorem fdDecode_finishFrame {bits : List Bool} (h : bits.length = 368) (sync : SyncType) (acc : Bool) (fd : Fd) (vit : Vit) :
    fdDecode m17core sync acc ((finishFrame m17core bits).map soft) fd vit =
      (fdDispatch m17core sync acc (bits.map soft) fd vit).withCost := by
  rw [fdDecode_eq, fdFrame_finishFrame h]

/-! ### LSF frames -/

section
variable {lsf : List Byte} (h : lsf.length = 30) (accept : Bool) (fd : Fd) (vit : Vit)
include h

theorem fdViterbi_lsf :
    (fdViterbi m17core ((puncture (convEncode (bitsOfBytes lsf)) (m17core.mask .p1) 368).map soft) .p1 488 240).cost = 0 ∧
      lsfBytes m17core ((puncture (convEncode (bitsOfBytes lsf)) (m17core.mask .p1) 368).map soft) = lsf := by
  have hbits : (bitsOfBytes lsf).length = 240 := by rw [length_bitsOfBytes, h]
  obtain ⟨hcost, hdata⟩ := fdViterbi_punctured hbits (by omega) .p1 368 (coded := 488) rfl deadEnds_lsf
  exact ⟨hcost, by rw [lsfBytes, hdata, bytesOfBits_bitsOfBytes]⟩

/-- Rule R313 (a). -/
theorem fdDecode_encLsf :
    let o := fdDecode m17core .lsf accept ((encLsf m17core lsf).map soft) fd vit
    o.cost = 0 ∧ (crc16 lsf = 0 → o.result = .ok ∧ o.fd.lsf.toList = lsf ∧ o.event = frameEvent .lsf 0 lsf []) ∧
      (crc16 lsf ≠ 0 → o.result = .fail) := by
  intro o
  obtain ⟨hcost, hbytes⟩ := fdViterbi_lsf h
  obtain ⟨x, hx⟩ : ∃ x, x = (puncture (convEncode (bitsOfBytes lsf)) (m17core.mask .p1) 368).map soft := ⟨_, rfl⟩
  have ho : o = (fdLsf m17core x fd vit).withCost := by
    rw [hx]
    exact fdDecode_finishFrame (length_lsfCoded h) .lsf accept fd vit
  rw [← hx] at hcost hbytes
  clear_value o
  subst ho
  obtain ⟨⟨hocost, -⟩, hrow⟩ := fdLsf_row m17core x fd vit
  rw [hbytes] at hrow
  refine ⟨hocost.trans hcost, fun hgood => ?_, fun hbad => ?_⟩
  · rw [if_pos hgood] at hrow
    obtain ⟨hresult, hlsf, -, -, hevent⟩ := hrow
    refine ⟨hresult, hlsf, ?_⟩
    rw [hevent, hlsf, hocost, hcost]
  · rw [if_neg hbad] at hrow
    exact hrow.1

end

/-! ### Packet and BERT frames -/

section
variable (accept : Bool) (fd : Fd) (vit : Vit)

/-- Rule R313 (d). -/
theorem fdDecode_encPacket {pkt : List Byte} (h : pkt.length = 26) {t : FrameType}
    (ht : (fd.state, t) ∈ [(FdState.basicPacket, FrameType.basicPacket), (.fullPacket, .fullPacket)]) :
    let o := fdDecode m17core .packet accept ((encPacket m17core pkt).map soft) fd vit
    o.cost = 0 ∧ o.event = frameEvent t 0 fd.lsf.toList (pkt.take 25 ++ [pkt.getD 25 0 &&& 0xFC]) ∧
      (if (pkt.getD 25 0).getLsbD 7 then o.result = (if accept then .ok else .fail) ∧ o.fd.state = .lsf
       else o.result = .packetIncomplete ∧ o.fd.state = fd.state) := by
  intro o
  obtain ⟨hcost, hdata⟩ := fdViterbi_punctured (length_packetBits h) (by omega) .p3 368 (coded := 420) rfl deadEnds_packet
  obtain ⟨x, hx⟩ : ∃ x, x = (puncture (convEncode ((bitsOfBytes pkt).take 206)) (m17core.mask .p3) 368).map soft := ⟨_, rfl⟩
  have hdispatch : fdDispatch m17core .packet accept x fd vit = fdPacket m17core t accept x fd vit := by
    have hmatch := ht
    simp only [List.mem_cons, Prod.mk.injEq, List.not_mem_nil, or_false] at hmatch
    rcases hmatch with ⟨hstate, rfl⟩ | ⟨hstate, rfl⟩ <;> simp only [fdDispatch, hstate]
  have ho : o = (fdPacket m17core t accept x fd vit).withCost := by
    rw [← hdispatch, hx]
    exact fdDecode_finishFrame (length_packetCoded h) .packet accept fd vit
  have hbytes : bytesOfBits ((bitsOfBytes pkt).take 206) = pkt.take 25 ++ [pkt.getD 25 0 &&& 0xFC] := by
    have hcut := bytesOfBits_take (n := 25) (k := 6) h (by omega) (by omega)
    rwa [byteOfBits_take_six] at hcut
  have hlast : (pkt.take 25 ++ [pkt.getD 25 0 &&& 0xFC]).getD 25 0 = pkt.getD 25 0 &&& 0xFC := by
    have hlen : (pkt.take 25).length = 25 := by rw [List.length_take, h]; rfl
    rw [List.getD_append_right _ _ _ _ hlen.le, hlen]
    rfl
  have hflag : (pkt.getD 25 0 &&& 0xFC).getLsbD 7 = (pkt.getD 25 0).getLsbD 7 := by
    rw [BitVec.getLsbD_and]
    exact Bool.and_true _
  rw [← hx] at hcost hdata
  clear_value o
  subst ho
  obtain ⟨⟨hocost, -⟩, ⟨hlsf, -⟩, -, hevent, hrow⟩ := fdPacket_row m17core x fd vit t accept
  rw [hdata, hbytes] at hevent hrow
  rw [hlast, hflag] at hrow
  refine ⟨hocost.trans hcost, ?_, hrow⟩
  rw [hevent, hlsf, hocost, hcost]

/-- Rule R313 (e). -/
theorem fdDecode_encBert {bytes : List Byte} (h : bytes.length = 25) :
    let o := fdDecode m17core .bert accept ((encBert m17core bytes).map soft) fd vit
    o.cost = 0 ∧ o.event = frameEvent .bert 0 fd.lsf.toList (bytes.take 24 ++ [bytes.getD 24 0 &&& 0xF8]) ∧
      o.result = .ok ∧ o.fd.state = .bert := by
  intro o
  obtain ⟨hcost, hdata⟩ := fdViterbi_punctured (length_bertBits h) (by omega) .p2 368 (coded := 402) rfl deadEnds_bert
  have ho : o = _ := fdDecode_finishFrame (length_bertCoded h) .bert accept fd vit
  have hbytes : bytesOfBits ((bitsOfBytes bytes).take 197) = bytes.take 24 ++ [bytes.getD 24 0 &&& 0xF8] := by
    have hcut := bytesOfBits_take (n := 24) (k := 5) h (by omega) (by omega)
    rwa [byteOfBits_take_five] at hcut
  simp only [fdDispatch, fdBert, FdOut.withCost, hcost, hdata, hbytes] at ho
  rw [ho]
  exact ⟨rfl, rfl, rfl, rfl⟩

end

/-- Settles O52: one clause for each builder. -/
theorem lsfFrameRoundTrip : Obligations.LsfFrameRoundTrip := fun accept fd vit =>
  ⟨fun _ h => fdDecode_encLsf h accept fd vit, fun _ _ h ht => fdDecode_encPacket accept fd vit h ht,
    fun _ h => fdDecode_encBert accept fd vit h⟩

/-! ### Stream frames -/

theorem map_hard_map_soft (bs : List Bool) : (bs.map soft).map hard = bs := by
  have hbit (b : Bool) : hard (soft b) = b := by cases b <;> rfl
  simp [Function.comp_def, hbit]

theorem golayDec24_golayEnc24 (d : BitVec 12) : golayDec24 (golayEnc24 d) = some d := by
  have h := golayDec24_corrupted d 0 0 (by decide)
  have hzero : golayEnc24 d ^^^ ((0 : BitVec 23) ++ (0 : BitVec 1)) = golayEnc24 d := BitVec.xor_zero
  rwa [hzero] at h

/-- The chunks of a list of whole chunks make up the list. -/
theorem flatMap_range_chunk {α : Type} {k n : Nat} {xs : List α} (h : xs.length = k * n) :
    ((List.range n).flatMap fun c => (xs.drop (k * c)).take k) = xs := by
  induction n generalizing xs with
  | zero => exact (List.length_eq_zero_iff.1 h).symm
  | succ n ih =>
    have hrest : (xs.drop k).length = k * n := by rw [List.length_drop, h, Nat.mul_succ, Nat.add_sub_cancel]
    have htail := ih hrest
    simp only [List.drop_drop] at htail
    rw [List.range_succ_eq_map, List.flatMap_cons, List.flatMap_map, Nat.mul_zero, List.drop_zero]
    simp only [Nat.succ_eq_add_one, Nat.mul_succ, Nat.add_comm _ k]
    rw [htail, List.take_append_drop]

section
variable {frag pay : List Byte} (hf : frag.length = 5) (n : BitVec 3)
include hf

/-- The twelve data bits of a codeword of the LICH come back. -/
theorem lichData_encLich (rest : List Bool) {c : Nat} (hc : c < 4) :
    lichData ((encLich frag n ++ rest).map soft) c =
      some (BitVec.ofNat 12 (natOfBits (((lichBits frag n).drop (12 * c)).take 12))) := by
  have hword : (((encLich frag n ++ rest).map soft).drop (24 * c)).take 24 =
      (golayBits (((lichBits frag n).drop (12 * c)).take 12)).map soft := by
    have hlen := length_encLich hf n
    rw [← List.map_drop, ← List.map_take, List.drop_append_of_le_length (by omega),
      List.take_append_of_le_length (by rw [List.length_drop]; omega), encLich_codeword hf n hc]
  rw [lichData, hword, golayWord, map_hard_map_soft, golayBits, ofNat_natOfBits_bitsOf, golayDec24_golayEnc24]

theorem lichBytes_encLich (rest : List Bool) :
    lichBytes ((encLich frag n ++ rest).map soft) = frag ++ [n.setWidth 8 <<< 5] := by
  have hlen := length_lichBits hf n
  have hgroups : ((List.range 4).flatMap fun c =>
      bitsOf ((lichData ((encLich frag n ++ rest).map soft) c).getD 0)) = lichBits frag n := by
    refine (List.flatMap_congr fun c hc => ?_).trans (flatMap_range_chunk hlen)
    have hc4 : c < 4 := List.mem_range.1 hc
    rw [lichData_encLich hf n rest hc4, Option.getD_some, bitsOf_ofNat_natOfBits]
    rw [List.length_take, List.length_drop, hlen]
    omega
  rw [lichBytes, hgroups, ← bitsOfBytes_fragment, bytesOfBits_bitsOfBytes]

theorem lichNumber_encLich : lichNumber (frag ++ [n.setWidth 8 <<< 5]) = n.toNat := by
  have hsixth : (frag ++ [n.setWidth 8 <<< 5]).getD 5 0 = n.setWidth 8 <<< 5 := by
    rw [List.getD_append_right _ _ _ _ hf.le, hf]
    rfl
  rw [lichNumber, hsixth]
  clear hsixth
  revert n
  decide

theorem bitsOfBytes_encLich : bitsOfBytes (bytesOfBits (encLich frag n)) = encLich frag n := by
  have hprefix := prefix_bitsOfBytes_bytesOfBits (encLich frag n)
  refine (hprefix.eq_of_length ?_).symm
  rw [length_bitsOfBytes, bytesOfBits_length, length_encLich hf]

variable (hp : pay.length = 18) (accept : Bool) (fd : Fd) (vit : Vit)
include hp

/-- The bits of a stream frame before the last two stages. -/
theorem length_streamFrameBits :
    (encLich frag n ++ puncture (convEncode (bitsOfBytes pay)) (m17core.mask .p2) 272).length = 368 := by
  rw [List.length_append, length_encLich hf, length_streamCoded hp]

theorem fdDecode_encStream :
    fdDecode m17core .stream accept ((encStream m17core (bytesOfBits (encLich frag n)) pay).map soft) fd vit =
      (fdDispatch m17core .stream accept
        ((encLich frag n ++ puncture (convEncode (bitsOfBytes pay)) (m17core.mask .p2) 272).map soft) fd vit).withCost := by
  rw [encStream, bitsOfBytes_encLich hf, fdDecode_finishFrame (length_streamFrameBits hf n hp)]

/-- Rule R313 (b). -/
theorem fdLich_encStream (hn : n.toNat ≤ 5) (hstate : fd.state = .lsf) :
    let o := (fdLich ((encLich frag n ++ puncture (convEncode (bitsOfBytes pay)) (m17core.mask .p2) 272).map soft) fd vit).withCost
    let mask := fd.lichMask ||| (1#6 <<< n.toNat)
    (∀ k : Fin 30, o.fd.lsf[k] = if k.val / 5 = n.toNat then frag.getD (k.val % 5) 0 else fd.lsf[k]) ∧
    o.cost = 0 ∧ o.vit = vit ∧
    (if mask ≠ 0x3F then o.result = .incomplete ∧ o.fd.lichMask = mask ∧ o.fd.state = .lsf
     else if crc16 o.fd.lsf.toList = 0 then o.result = .ok ∧ o.fd.lichMask = 0 ∧ o.fd.state = .stream
     else o.result = .fail ∧ o.fd.lichMask = 0x3F ∧ o.fd.state = .lsf) := by
  intro o mask
  obtain ⟨rest, hrest⟩ : ∃ rest, rest = puncture (convEncode (bitsOfBytes pay)) (m17core.mask .p2) 272 := ⟨_, rfl⟩
  have hlen := length_streamFrameBits hf n hp
  rw [← hrest] at hlen
  obtain ⟨x, hx⟩ : ∃ x, x = (encLich frag n ++ rest).map soft := ⟨_, rfl⟩
  have ho : o = (fdLich x fd vit).withCost := by rw [hx, hrest]
  have hsome (c : Nat) (hc : c < 4) : lichData x c ≠ none := by
    rw [hx, lichData_encLich hf n rest hc]
    exact Option.some_ne_none _
  have hbytes : lichBytes x = frag ++ [n.setWidth 8 <<< 5] := hx ▸ lichBytes_encLich hf n rest
  have hnumber : lichNumber (lichBytes x) = n.toNat := by rw [hbytes, lichNumber_encLich hf n]
  clear_value o
  subst ho
  obtain ⟨hcost, hvit, hrow⟩ := fdLich_row x fd vit (by rw [hx, List.length_map, hlen]) hstate
  rw [hnumber, if_neg (by simp [hsome]; omega)] at hrow
  obtain ⟨hslot, hresult⟩ := hrow
  refine ⟨fun k => ?_, hcost, hvit, ?_⟩
  · have hmod : k.val % 5 < frag.length := by rw [hf]; omega
    rw [hslot k, hbytes, List.getD_append _ _ _ _ hmod]
  · by_cases hmask : mask ≠ 0x3F
    · rw [if_pos hmask] at hresult ⊢
      obtain ⟨h1, h2, h3, -⟩ := hresult
      exact ⟨h1, h3, h2⟩
    · rw [if_neg hmask] at hresult ⊢
      split at hresult
      next hcrc =>
        obtain ⟨h1, h2, h3, -⟩ := hresult
        rw [if_pos hcrc]
        exact ⟨h1, h3, h2⟩
      next hcrc =>
        obtain ⟨h1, h2, h3, -⟩ := hresult
        rw [if_neg hcrc]
        exact ⟨h1, h3, h2⟩

/-- Rule R313 (c). -/
theorem fdStream_encStream (hstate : fd.state = .stream) :
    let o := (fdStream m17core ((encLich frag n ++ puncture (convEncode (bitsOfBytes pay)) (m17core.mask .p2) 272).map soft)
      fd vit).withCost
    o.cost = 0 ∧ o.event = frameEvent .stream 0 fd.lsf.toList pay ∧ o.fd.lsf = fd.lsf ∧ o.fd.lichMask = fd.lichMask ∧
    (if (pay.getD 0 0).getLsbD 7 then o.result = .eos ∧ o.fd.state = .lsf else o.result = .ok ∧ o.fd.state = .stream) := by
  intro o
  obtain ⟨x, hx⟩ : ∃ x, x = (encLich frag n ++ puncture (convEncode (bitsOfBytes pay)) (m17core.mask .p2) 272).map soft :=
    ⟨_, rfl⟩
  have hbits : (bitsOfBytes pay).length = 144 := by rw [length_bitsOfBytes, hp]
  obtain ⟨hcost, hdata⟩ := fdViterbi_punctured hbits (by omega) .p2 272 (coded := 296) rfl deadEnds_stream
  have hdrop : x.drop 96 = (puncture (convEncode (bitsOfBytes pay)) (m17core.mask .p2) 272).map soft := by
    rw [hx, ← List.map_drop, List.drop_left' (length_encLich hf n)]
  rw [← hdrop] at hcost hdata
  have ho : o = (fdStream m17core x fd vit).withCost := by rw [hx]
  clear_value o
  subst ho
  obtain ⟨⟨hocost, -⟩, ⟨hlsf, hmask⟩, hevent, hrow⟩ := fdStream_row m17core x fd vit
  rw [hdata, bytesOfBits_bitsOfBytes] at hevent hrow
  have hzero := hocost.trans hcost
  refine ⟨hzero, ?_, hlsf, hmask, ?_⟩
  · rw [hevent, hlsf, hzero]
  · rw [hzero, hstate] at hrow
    simpa using hrow

end

/-- Settles O51: the two paths of a stream frame. -/
theorem lichFragmentRoundTrip : Obligations.LichFragmentRoundTrip := by
  intro frag pay n accept fd vit hf hp hn frame o
  have ho : o = _ := fdDecode_encStream hf n hp accept fd vit
  clear_value o
  refine ⟨fun hstate => ?_, fun hstate => ?_⟩
  · simp only [fdDispatch, hstate] at ho
    subst ho
    exact fdLich_encStream hf n hp fd vit hn hstate
  · simp only [fdDispatch, hstate] at ho
    subst ho
    exact fdStream_encStream hf n hp fd vit hstate

end Sys2Proof.Machine

/-! SUPPORT. The demodulator's search and re-sync (spec/48_demodulator.md rules R280, R281, R285, R290, R291): what one sample
does in UNLOCKED and in the three re-sync states, and the two statements about it. -/

namespace Sys2Proof.Machine

open Sys2Proof

/-! ### One detector stepped and read -/

section
variable (w : SynSel) (s : State)

@[simp] theorem stepAndRead_dem : (stepAndRead m17core w s).dem = s.dem := setSyn_dem _ _ _

@[simp] theorem stepAndRead_fd : (stepAndRead m17core w s).fd = s.fd := setSyn_fd _ _ _

@[simp] theorem stepAndRead_dev : (stepAndRead m17core w s).dev = s.dev := setSyn_dev _ _ _

@[simp] theorem syn_stepAndRead : (stepAndRead m17core w s).syn w = synClear (steppedSyn m17core w s) := syn_setSyn _ _ _

end

/-! ### UNLOCKED -/

/-- The demodulator's registers after `found` (rule R281). -/
def foundDem (i : Fin 10) (next : DemodState) (tag : SyncType) (d : Dem) : Dem :=
  { d with
    needClockReset := true, sampleIndex := i, syncSampleIndex := i, syncCount := 0, missingSyncCount := 0
    syncWordType := tag, state := next }

theorem found_eq (i : Fin 10) (next : DemodState) (tag : Option SyncType) (s : State) :
    found m17core i next tag s =
      { s with dev := devReset m17core, dem := foundDem i next (tag.getD s.dem.syncWordType) s.dem } := by
  simp [found, recordSync_eq, foundDem]

/-- Rule R280: the preamble search, without a detection and with one. -/
theorem searchPreamble_cases (s : State) :
    ((steppedSyn m17core .preamble s).updated = .zero ∧
      searchPreamble m17core s = { stepAndRead m17core .preamble s with
        dem := { s.dem with missingSyncCount := s.dem.missingSyncCount + 1 } }) ∨
    ((steppedSyn m17core .preamble s).updated ≠ .zero ∧
      searchPreamble m17core s = { stepAndRead m17core .preamble s with
        dev := devReset m17core
        dem := foundDem (steppedSyn m17core .preamble s).timingIndex .lsfSync s.dem.syncWordType s.dem }) := by
  by_cases h : (steppedSyn m17core .preamble s).updated = .zero
  · exact .inl ⟨h, if_neg (not_not.2 h)⟩
  · exact .inr ⟨h, (if_pos h).trans (found_eq _ _ _ _)⟩

/-- Both detectors of the fallback search stepped and read. -/
def fallbackRead (s : State) : State :=
  stepAndRead m17core .packet (stepAndRead m17core .lsf s)

/-- Rule R281: LSF/STREAM first, then BERT, then PACKET, or none. -/
theorem searchFallback_cases (s : State) :
    ((steppedSyn m17core .lsf s).updated ≠ .zero ∧
      searchFallback m17core s = { fallbackRead s with
        dev := devReset m17core
        dem := foundDem (steppedSyn m17core .lsf s).timingIndex .lsfSync s.dem.syncWordType s.dem }) ∨
    ((steppedSyn m17core .lsf s).updated = .zero ∧ (steppedSyn m17core .packet s).updated = .minus ∧
      searchFallback m17core s = { fallbackRead s with
        dev := devReset m17core
        dem := foundDem (steppedSyn m17core .packet s).timingIndex .frame .bert s.dem }) ∨
    ((steppedSyn m17core .lsf s).updated = .zero ∧ (steppedSyn m17core .packet s).updated = .plus ∧
      searchFallback m17core s = { fallbackRead s with
        dev := devReset m17core
        dem := foundDem (steppedSyn m17core .packet s).timingIndex .lsfSync s.dem.syncWordType s.dem }) ∨
    ((steppedSyn m17core .lsf s).updated = .zero ∧ (steppedSyn m17core .packet s).updated = .zero ∧
      searchFallback m17core s = fallbackRead s) := by
  by_cases hlsf : (steppedSyn m17core .lsf s).updated = .zero
  · cases hpacket : (steppedSyn m17core .packet s).updated with
    | zero => exact .inr (.inr (.inr ⟨hlsf, rfl, by simp only [searchFallback, hlsf, hpacket]; rfl⟩))
    | plus =>
      refine .inr (.inr (.inl ⟨hlsf, rfl, Eq.trans ?_ (found_eq _ _ none (fallbackRead s))⟩))
      simp only [searchFallback, hlsf, hpacket]
      rfl
    | minus =>
      refine .inr (.inl ⟨hlsf, rfl, Eq.trans ?_ (found_eq _ _ (some .bert) (fallbackRead s))⟩)
      simp only [searchFallback, hlsf, hpacket]
      rfl
  · exact .inl ⟨hlsf, (if_pos hlsf).trans (found_eq _ _ _ _)⟩

theorem demHandler_of_unlocked {s : State} (h : s.dem.state = .unlocked) (y : RealVal) (acc : Bool) :
    demHandler m17core y acc s =
      if s.dem.missingSyncCount < 1920 then searchPreamble m17core s else searchFallback m17core s := by
  rw [demHandler, h]
  rfl

/-- Settles O55: the two searches, each by its cases. -/
theorem unlockedSearchOrder : Obligations.UnlockedSearchOrder := by
  intro y accept s hstate t pre lsf pkt sent
  have ht := demHandler_of_unlocked hstate y accept
  refine ⟨fun hpreamble => ?_, fun hfallback => ?_⟩
  · replace ht : t = _ := ht.trans (if_pos hpreamble)
    clear_value t
    rcases searchPreamble_cases s with ⟨hzero, heq⟩ | ⟨hedge, heq⟩ <;> rw [heq] at ht <;> subst ht
    · exact ⟨rfl, rfl, rfl, (if_pos hzero).symm ▸ rfl⟩
    · exact ⟨rfl, rfl, rfl, (if_neg hedge).symm ▸ ⟨rfl, rfl, rfl, rfl, rfl, rfl, rfl⟩⟩
  · replace ht : t = _ := ht.trans (if_neg (not_lt.2 hfallback))
    clear_value t
    rcases searchFallback_cases s with ⟨hlsf, heq⟩ | ⟨hlsf, hpkt, heq⟩ | ⟨hlsf, hpkt, heq⟩ | ⟨hlsf, hpkt, heq⟩ <;>
      rw [heq] at ht <;> subst ht
    · exact ⟨rfl, rfl, rfl, (if_pos hlsf).symm ▸ ⟨rfl, rfl, rfl, rfl, rfl, rfl, rfl⟩⟩
    · refine ⟨rfl, rfl, rfl, ?_⟩
      rw [if_neg (show ¬ lsf.updated ≠ .zero from not_not.2 hlsf), if_pos (show pkt.updated = .minus from hpkt)]
      exact ⟨rfl, rfl, rfl, rfl, rfl, rfl, rfl⟩
    · have hpkt : pkt.updated = .plus := hpkt
      refine ⟨rfl, rfl, rfl, ?_⟩
      rw [if_neg (show ¬ lsf.updated ≠ .zero from not_not.2 hlsf), if_neg (by rw [hpkt]; decide), if_pos hpkt]
      exact ⟨rfl, rfl, rfl, rfl, rfl, rfl, rfl⟩
    · have hpkt : pkt.updated = .zero := hpkt
      refine ⟨rfl, rfl, rfl, ?_⟩
      rw [if_neg (show ¬ lsf.updated ≠ .zero from not_not.2 hlsf), if_neg (by rw [hpkt]; decide),
        if_neg (by rw [hpkt]; decide)]
      rfl

/-! ### The re-sync states -/

/-- Rules R285, R290, R291: the five outcomes of a sample in a re-sync state. -/
theorem handleResync_cases (w : SynSel) (sign : SyncSign) (tag : SyncType) (fallback : DemodState) (s : State) :
    ((steppedSyn m17core w s).updated = sign ∧ 70 < s.dem.syncCount + 1 ∧
      handleResync m17core w sign tag fallback s = { stepAndRead m17core w s with
        dem := { s.dem with
          syncCount := s.dem.syncCount + 1, missingSyncCount := 0, syncWordType := tag, state := .frame
          syncSampleIndex := (steppedSyn m17core w s).timingIndex } }) ∨
    ((steppedSyn m17core w s).updated = sign ∧ ¬ 70 < s.dem.syncCount + 1 ∧
      handleResync m17core w sign tag fallback s = { stepAndRead m17core w s with
        dem := { s.dem with syncCount := s.dem.syncCount + 1, missingSyncCount := 0 } }) ∨
    ((steppedSyn m17core w s).updated ≠ sign ∧ 87 < s.dem.syncCount + 1 ∧ s.dem.missingSyncCount + 1 < 8 ∧
      handleResync m17core w sign tag fallback s = { stepAndRead m17core w s with
        dem := { s.dem with
          syncCount := s.dem.syncCount + 1, missingSyncCount := s.dem.missingSyncCount + 1, syncWordType := tag
          state := .frame } }) ∨
    ((steppedSyn m17core w s).updated ≠ sign ∧ 87 < s.dem.syncCount + 1 ∧ ¬ s.dem.missingSyncCount + 1 < 8 ∧
      handleResync m17core w sign tag fallback s = { stepAndRead m17core w s with
        fd := if fallback = .unlocked then fdReset s.fd else s.fd
        dem := { s.dem with syncCount := s.dem.syncCount + 1, missingSyncCount := 0, state := fallback } }) ∨
    ((steppedSyn m17core w s).updated ≠ sign ∧ ¬ 87 < s.dem.syncCount + 1 ∧
      handleResync m17core w sign tag fallback s = { stepAndRead m17core w s with
        dem := { s.dem with syncCount := s.dem.syncCount + 1 } }) := by
  by_cases hedge : (steppedSyn m17core w s).updated = sign
  · by_cases hmin : 70 < s.dem.syncCount + 1
    · refine .inl ⟨hedge, hmin, ?_⟩
      simp [handleResync, hedge, Config.SYNC_DWELL_MIN, hmin, recordSync_eq]
    · refine .inr (.inl ⟨hedge, hmin, ?_⟩)
      simp [handleResync, hedge, Config.SYNC_DWELL_MIN, hmin]
  · by_cases hmax : 87 < s.dem.syncCount + 1
    · by_cases hmisses : s.dem.missingSyncCount + 1 < 8
      · refine .inr (.inr (.inl ⟨hedge, hmax, hmisses, ?_⟩))
        simp [handleResync, hedge, Config.SYNC_DWELL_MAX, hmax, Config.MAX_MISSING_SYNC, hmisses]
      · refine .inr (.inr (.inr (.inl ⟨hedge, hmax, hmisses, ?_⟩)))
        by_cases hfallback : fallback = .unlocked <;>
          simp [handleResync, hedge, Config.SYNC_DWELL_MAX, hmax, Config.MAX_MISSING_SYNC, hmisses, giveUp, hfallback, resetFd]
    · refine .inr (.inr (.inr (.inr ⟨hedge, hmax, ?_⟩)))
      simp [handleResync, hedge, Config.SYNC_DWELL_MAX, hmax]

/-- Rule R285: the handler is that of the state's row. -/
theorem demHandler_of_resync {s : State} {w : SynSel} {sign : SyncSign} {tag : SyncType} {fallback : DemodState}
    (h : (s.dem.state, w, sign, tag, fallback) ∈
      [ (DemodState.streamSync, SynSel.lsf, SyncSign.minus, SyncType.stream, DemodState.lsfSync),
        (.packetSync, .packet, .plus, .packet, .unlocked), (.bertSync, .packet, .minus, .bert, .unlocked) ])
    (y : RealVal) (acc : Bool) : demHandler m17core y acc s = handleResync m17core w sign tag fallback s := by
  simp only [List.mem_cons, Prod.mk.injEq, List.not_mem_nil, or_false] at h
  rcases h with ⟨hstate, rfl, rfl, rfl, rfl⟩ | ⟨hstate, rfl, rfl, rfl, rfl⟩ | ⟨hstate, rfl, rfl, rfl, rfl⟩ <;>
    rw [demHandler, hstate]

/-- Settles O57: one clause for each outcome of `handleResync_cases`. -/
theorem resyncWindowOfEachState : Obligations.ResyncWindowOfEachState := by
  intro y accept s w sign tag fallback hrow t edge n
  have ht : t = _ := demHandler_of_resync hrow y accept
  have hread (d : Dem) (fd : Fd) : State.syn { stepAndRead m17core w s with dem := d, fd := fd } w =
      { edge with updated := .zero } := by
    cases w <;> rfl
  clear_value t
  rcases handleResync_cases w sign tag fallback s with ⟨hedge, hmin, heq⟩ | ⟨hedge, hmin, heq⟩ |
    ⟨hedge, hmax, hmisses, heq⟩ | ⟨hedge, hmax, hmisses, heq⟩ | ⟨hedge, hmax, heq⟩ <;> rw [heq] at ht <;> subst ht <;>
    refine ⟨hread _ _, ?_⟩
  · rw [if_pos (show edge.updated = sign from hedge), if_pos (show 70 < n from hmin)]
    exact ⟨rfl, stepAndRead_fd w s⟩
  · rw [if_pos (show edge.updated = sign from hedge), if_neg (show ¬ 70 < n from hmin)]
    exact ⟨rfl, stepAndRead_fd w s⟩
  · rw [if_neg (show edge.updated ≠ sign from hedge), if_pos (show 87 < n from hmax), if_pos hmisses]
    exact ⟨rfl, stepAndRead_fd w s⟩
  · rw [if_neg (show edge.updated ≠ sign from hedge), if_pos (show 87 < n from hmax), if_neg hmisses]
    exact ⟨rfl, rfl⟩
  · rw [if_neg (show edge.updated ≠ sign from hedge), if_neg (show ¬ 87 < n from hmax)]
    exact ⟨rfl, stepAndRead_fd w s⟩

end Sys2Proof.Machine

/-! SUPPORT. The end of a sample (spec/48_demodulator.md rules R276, R277, R300, R301; spec/30_encoding.md rule R88): the
diagnostics record, the carrier poll and the diagnostics tick as one equation, and the statement about them. -/

namespace Sys2Proof.Machine

open Sys2Proof

/-! ### The diagnostics record -/

/-- The first payload word of a diagnostics record (rule R88). -/
def diagWord (s : State) : Word32 :=
  wordOfFields
    [ field 0 1 s.dem.dcd.toNat, field 4 3 (demodCode s.dem.state), field 8 2 (syncTypeCode s.dem.syncWordType),
      field 12 4 s.dem.sampleIndex.val, field 16 4 s.dem.syncSampleIndex.val ]

theorem diagEvent_eq (s : State) :
    diagEvent s = [0xF1000006, diagWord s, f32OfReal s.dev.error, f32OfReal s.dev.deviation, f32OfReal s.dev.offset,
      f32OfReal s.clk.clock, BitVec.ofNat 32 s.dem.viterbiCost] := by
  have hrecord (vs : List Word32) (h : vs.length = 6) : recordWords 0xF1 0 vs = 0xF1000006 :: vs := by
    simp [recordWords, h]
  rw [diagEvent, hrecord _ rfl]
  rfl

theorem diagWord_fields (s : State) :
    (diagWord s).getLsbD 0 = s.dem.dcd ∧ (diagWord s).extractLsb' 1 3 = 0 ∧
      (diagWord s).extractLsb' 4 3 = BitVec.ofNat 3 (demodCode s.dem.state) ∧ (diagWord s).getLsbD 7 = false ∧
      (diagWord s).extractLsb' 8 2 = BitVec.ofNat 2 (syncTypeCode s.dem.syncWordType) ∧
      (diagWord s).extractLsb' 10 2 = 0 ∧ (diagWord s).extractLsb' 12 4 = BitVec.ofNat 4 s.dem.sampleIndex.val ∧
      (diagWord s).extractLsb' 16 4 = BitVec.ofNat 4 s.dem.syncSampleIndex.val ∧ (diagWord s).extractLsb' 20 12 = 0 := by
  simp [diagWord, BitVec.extractLsb'_or]

/-! ### The poll -/

/-- This sample polls and the carrier has come on. -/
def pollsOn (s : State) : Bool :=
  decide (s.dem.pollCount = 959) && !s.dem.dcd && (dcdUpdate m17core s.dcd).locked

/-- This sample polls and the carrier is lost. -/
def pollsOff (s : State) : Bool :=
  decide (s.dem.pollCount = 959) && s.dem.dcd && !(dcdUpdate m17core s.dcd).locked

/-- The state after the poll, without the record of a transition. -/
def polled (s : State) : State :=
  { s with
    dcd := if decide (s.dem.pollCount = 959) then dcdUpdate m17core s.dcd else s.dcd
    dem := { s.dem with
      pollCount := (s.dem.pollCount + 1) % 960
      dcd := if pollsOn s then true else if pollsOff s then false else s.dem.dcd
      state := if pollsOff s then .unlocked else s.dem.state
      missingSyncCount := if pollsOn s || pollsOff s then 0 else s.dem.missingSyncCount
      costCount := if pollsOn s || pollsOff s then 0 else s.dem.costCount
      syncCount := if pollsOn s then 0 else s.dem.syncCount
      needClockReset := pollsOn s || s.dem.needClockReset }
    dev := if pollsOn s then devReset m17core else s.dev
    frm := if pollsOn s then frmReset s.frm else s.frm
    fd := if pollsOn s || pollsOff s then fdReset s.fd else s.fd }

/-- Rules R276, R277, R300: a transition is recorded when diagnostics are enabled. -/
theorem dcdPoll_eq {s : State} (h : s.dem.pollCount < 960) :
    dcdPoll m17core s =
      append (if s.cfg.diagEnable && (pollsOn s || pollsOff s) then diagEvent (polled s) else []) (polled s) := by
  have hnone (u : State) : append [] u = u := by rw [append, List.append_nil]
  rcases dcdPoll_cases s with ⟨hcount, heq⟩ | ⟨hcount, hcases⟩
  · have hne : s.dem.pollCount ≠ 959 := by omega
    have hmod : (s.dem.pollCount + 1) % 960 = s.dem.pollCount + 1 := by omega
    have hon : pollsOn s = false := by simp [pollsOn, hne]
    have hoff : pollsOff s = false := by simp [pollsOff, hne]
    rw [heq]
    simp [polled, hon, hoff, hmod, hne, hnone]
  · have hlast : s.dem.pollCount = 959 := by omega
    rcases hcases with ⟨hdcd, hlocked, heq⟩ | ⟨hdcd, hlocked, heq⟩ | ⟨hsame, heq⟩
    · have hon : pollsOn s = true := by simpa [pollsOn, hlast, hdcd] using hlocked
      have hoff : pollsOff s = false := by simp [pollsOff, hdcd]
      rw [heq, dcdOn, diagEmit_eq]
      simp [polled, hon, hoff, hlast]
    · have hon : pollsOn s = false := by simp [pollsOn, hdcd]
      have hoff : pollsOff s = true := by simpa [pollsOff, hlast, hdcd] using hlocked
      rw [heq, dcdOff, diagEmit_eq]
      simp [polled, hon, hoff, hlast]
    · have hsame : s.dem.dcd = (dcdUpdate m17core s.dcd).locked := hsame
      have hon : pollsOn s = false := by simp [pollsOn, hsame]
      have hoff : pollsOff s = false := by simp [pollsOff, hsame]
      rw [heq]
      simp [polled, hon, hoff, hlast, hnone]

/-! ### The tick -/

/-- The state after the diagnostics tick, without its record. -/
def ticked (s : State) : State :=
  { s with dem := { s.dem with diagCount := (s.dem.diagCount + 1) % 960 } }

theorem diagTick_eq {s : State} (h : s.dem.diagCount < 960) :
    diagTick m17core s =
      append (if s.cfg.diagEnable && decide (s.dem.diagCount = 959) then diagEvent s else []) (ticked s) := by
  have hperiod : m17core.diagCadence = 960 := rfl
  by_cases hlast : s.dem.diagCount = 959
  · rw [diagTick, hperiod, if_pos (by omega), diagEmit_eq]
    simp [ticked, hlast]
    rfl
  · have hmod : (s.dem.diagCount + 1) % 960 = s.dem.diagCount + 1 := by omega
    rw [diagTick, hperiod, if_neg (by omega)]
    simp [ticked, hlast, hmod, append]

/-- Both together. -/
theorem diagTick_dcdPoll_eq {s : State} (hpoll : s.dem.pollCount < 960) (hdiag : s.dem.diagCount < 960) :
    diagTick m17core (dcdPoll m17core s) =
      append ((if s.cfg.diagEnable && (pollsOn s || pollsOff s) then diagEvent (polled s) else []) ++
        (if s.cfg.diagEnable && decide (s.dem.diagCount = 959) then diagEvent (polled s) else [])) (ticked (polled s)) := by
  have htick := diagTick_eq (s := append (if s.cfg.diagEnable && (pollsOn s || pollsOff s) then diagEvent (polled s) else [])
    (polled s)) hdiag
  rw [dcdPoll_eq hpoll, htick, ← append_append]
  rfl

/-- Settles O59: `diagTick_dcdPoll_eq`; both records are read after the changes of the transition. -/
theorem carrierPollAndDiagnosticsCadence : Obligations.CarrierPollAndDiagnosticsCadence := by
  intro s hpoll hdiag t locked poll on off fdReset records
  have ht : t = _ := diagTick_dcdPoll_eq hpoll hdiag
  have hrecords : ((if s.cfg.diagEnable && (pollsOn s || pollsOff s) then diagEvent (polled s) else []) ++
      (if s.cfg.diagEnable && decide (s.dem.diagCount = 959) then diagEvent (polled s) else [])) =
      (List.replicate records (diagEvent (polled s))).flatten := by
    change _ = (List.replicate (if s.cfg.diagEnable then
      (if pollsOn s || pollsOff s then 1 else 0) + (if s.dem.diagCount = 959 then 1 else 0) else 0) _).flatten
    by_cases hlast : s.dem.diagCount = 959 <;> cases s.cfg.diagEnable <;> cases pollsOn s || pollsOff s <;>
      simp [hlast, List.replicate_succ]
  rw [hrecords, diagEvent_eq] at ht
  clear_value t
  subst ht
  exact ⟨diagWord (polled s), rfl, diagWord_fields (polled s)⟩

end Sys2Proof.Machine

/-! SUPPORT. One sample of the demodulator (spec/48_demodulator.md rules R271 to R273, R278): the steps before the handler as
one function, that a sample emits event records and leaves the registers it does not use, and the statement about it. -/

namespace Sys2Proof.Machine

open Sys2Proof

/-! ### Event records -/

/-- The words are whole event records (rules R87, R88). -/
def IsEvents (ws : List Word32) : Prop :=
  ∃ events : List Record, ws = events.flatMap Record.words ∧ ∀ e ∈ events, e.isEvent = true ∧ e.payload.length ≤ 16

theorem isEvents_nil : IsEvents [] :=
  ⟨[], rfl, fun _ h => absurd h List.not_mem_nil⟩

theorem IsEvents.append {vs ws : List Word32} (hvs : IsEvents vs) (hws : IsEvents ws) : IsEvents (vs ++ ws) := by
  obtain ⟨es, rfl, hes⟩ := hvs
  obtain ⟨fs, rfl, hfs⟩ := hws
  refine ⟨es ++ fs, List.flatMap_append.symm, fun e he => ?_⟩
  exact (List.mem_append.1 he).elim (hes e) (hfs e)

theorem isEvents_record {r : Record} (hrop : r.isEvent = true) (hlen : r.payload.length ≤ 16) : IsEvents r.words :=
  ⟨[r], by simp, fun e he => by rw [List.mem_singleton.1 he]; exact ⟨hrop, hlen⟩⟩

theorem isEvents_diagEvent (s : State) : IsEvents (diagEvent s) :=
  isEvents_record (r := ⟨0xF1, 0, _⟩) rfl (by decide : 6 ≤ 16)

theorem isEvents_frameEvent (t : FrameType) (cost : Nat) {lsf variant : List Byte} (hlsf : lsf.length = 30)
    (hvariant : variant.length ≤ 26) : IsEvents (frameEvent t cost lsf variant) := by
  refine isEvents_record (r := ⟨0xF0, frameTypeCode t, _⟩) rfl ?_
  rw [List.length_cons, List.length_append, packBytes_length, packBytes_length, hlsf]
  omega

theorem isEvents_fdDecode (sync : SyncType) (acc : Bool) (f : List Llr) (fd : Fd) (vit : Vit) :
    IsEvents (fdDecode m17core sync acc f fd vit).event := by
  rw [fdDecode_eq]
  rcases fdDispatch_event m17core sync acc (length_fdFrame m17core f) fd vit with hnone | ⟨t, variant, hvariant, hevent⟩
  · exact hnone.symm ▸ isEvents_nil
  · exact hevent.symm ▸ isEvents_frameEvent t _ Vector.length_toList hvariant

/-! ### What a sample leaves alone -/

/-- From `s` to `t` only event records are appended, and the command stream, the latch, the configuration, the CRC register
and the encoder stay (rule R355 (a)). -/
structure Emits (s t : State) : Prop where
  events : ∃ ws, IsEvents ws ∧ t.rsp = s.rsp ++ ws
  input : t.input = s.input
  cmdIndex : t.cmdIndex = s.cmdIndex
  core : t.core = s.core
  cfg : t.cfg = s.cfg
  crc : t.crc = s.crc
  cnvMem : t.cnvMem = s.cnvMem

theorem Emits.refl (s : State) : Emits s s :=
  ⟨⟨[], isEvents_nil, (List.append_nil _).symm⟩, rfl, rfl, rfl, rfl, rfl, rfl⟩

theorem Emits.trans {s t u : State} (h : Emits s t) (h' : Emits t u) : Emits s u := by
  obtain ⟨ws, hws, hrsp⟩ := h.events
  obtain ⟨ws', hws', hrsp'⟩ := h'.events
  exact ⟨⟨ws ++ ws', hws.append hws', by rw [hrsp', hrsp, List.append_assoc]⟩, h'.input.trans h.input,
    h'.cmdIndex.trans h.cmdIndex, h'.core.trans h.core, h'.cfg.trans h.cfg, h'.crc.trans h.crc, h'.cnvMem.trans h.cnvMem⟩

/-- Changing the units of the demodulator emits nothing. -/
theorem emits_units (s : State) (vit : Vit) (cor : Cor) (preamble lsf packet : Syn) (dcd : Dcd) (clk : Clk) (dev : Dev)
    (frm : Frm) (fd : Fd) (dem : Dem) :
    Emits s { s with
      vit := vit, cor := cor, synPreamble := preamble, synLsf := lsf, synPacket := packet, dcd := dcd, clk := clk, dev := dev
      frm := frm, fd := fd, dem := dem } :=
  ⟨⟨[], isEvents_nil, (List.append_nil _).symm⟩, rfl, rfl, rfl, rfl, rfl, rfl⟩

theorem emits_append {ws : List Word32} (h : IsEvents ws) (s : State) : Emits s (append ws s) :=
  ⟨⟨ws, h, rfl⟩, rfl, rfl, rfl, rfl, rfl, rfl⟩

theorem emits_diagEmit (s : State) : Emits s (diagEmit s) := by
  rw [diagEmit_eq]
  refine emits_append ?_ s
  split
  · exact isEvents_diagEvent s
  · exact isEvents_nil

/-! ### The handlers -/

/-- From `s` to `t` a handler may have acted: the correlator, the clock, the carrier detector and decision, the two counters
and the filter's delay line stay too. -/
structure Handled (s t : State) : Prop extends Emits s t where
  cor : t.cor = s.cor
  clk : t.clk = s.clk
  dcd : t.dcd = s.dcd
  carrier : t.dem.dcd = s.dem.dcd
  pollCount : t.dem.pollCount = s.dem.pollCount
  diagCount : t.dem.diagCount = s.dem.diagCount
  mf : t.dem.mf = s.dem.mf

theorem Handled.refl (s : State) : Handled s s :=
  ⟨Emits.refl s, rfl, rfl, rfl, rfl, rfl, rfl, rfl⟩

theorem Handled.trans {s t u : State} (h : Handled s t) (h' : Handled t u) : Handled s u :=
  ⟨h.toEmits.trans h'.toEmits, h'.cor.trans h.cor, h'.clk.trans h.clk, h'.dcd.trans h.dcd, h'.carrier.trans h.carrier,
    h'.pollCount.trans h.pollCount, h'.diagCount.trans h.diagCount, h'.mf.trans h.mf⟩

theorem handled_searchPreamble (s : State) : Handled s (searchPreamble m17core s) := by
  rcases searchPreamble_cases s with ⟨-, heq⟩ | ⟨-, heq⟩ <;> rw [heq] <;>
    exact ⟨emits_units s _ _ _ _ _ _ _ _ _ _ _, rfl, rfl, rfl, rfl, rfl, rfl, rfl⟩

theorem handled_searchFallback (s : State) : Handled s (searchFallback m17core s) := by
  rcases searchFallback_cases s with ⟨-, heq⟩ | ⟨-, -, heq⟩ | ⟨-, -, heq⟩ | ⟨-, -, heq⟩ <;> rw [heq] <;>
    exact ⟨emits_units s _ _ _ _ _ _ _ _ _ _ _, rfl, rfl, rfl, rfl, rfl, rfl, rfl⟩

/-- The five outcomes of a sample in LSF_SYNC (rules R283, R284). -/
theorem handleLsfSync_cases (s : State) :
    ((corIndex s.cor ≠ s.dem.sampleIndex ∨ strongNow m17core s .preamble = true) ∧ handleLsfSync m17core s = s) ∨
    (¬ (corIndex s.cor ≠ s.dem.sampleIndex ∨ strongNow m17core s .preamble = true) ∧
      ((strongNow m17core s .lsf = true ∧
        handleLsfSync m17core s = hit m17core (if 0 < synTriggered m17core s.cor .lsf then .lsf else .stream) s) ∨
      (strongNow m17core s .lsf = false ∧ strongNow m17core s .packet = true ∧
        handleLsfSync m17core s = hit m17core (if 0 < synTriggered m17core s.cor .packet then .packet else .bert) s) ∨
      (strongNow m17core s .lsf = false ∧ strongNow m17core s .packet = false ∧ s.dem.missingSyncCount + 1 < 192 ∧
        handleLsfSync m17core s = { s with dem := { s.dem with missingSyncCount := s.dem.missingSyncCount + 1 } }) ∨
      (strongNow m17core s .lsf = false ∧ strongNow m17core s .packet = false ∧ 192 ≤ s.dem.missingSyncCount + 1 ∧
        handleLsfSync m17core s = { s with
          fd := fdReset s.fd, dem := { s.dem with state := .unlocked, missingSyncCount := 0 } }))) := by
  by_cases hholds : corIndex s.cor ≠ s.dem.sampleIndex ∨ strongNow m17core s .preamble = true
  · exact .inl ⟨hholds, handleLsfSync_of_holds hholds⟩
  refine .inr ⟨hholds, ?_⟩
  rw [handleLsfSync_of_tests hholds]
  cases hlsf : strongNow m17core s .lsf
  · cases hpacket : strongNow m17core s .packet
    · rcases Nat.lt_or_ge (s.dem.missingSyncCount + 1) 192 with hlt | hge
      · exact .inr (.inr (.inl ⟨rfl, rfl, hlt, miss_of_lt hlt⟩))
      · exact .inr (.inr (.inr ⟨rfl, rfl, hge, miss_of_le hge⟩))
    · exact .inr (.inl ⟨rfl, rfl, rfl⟩)
  · exact .inl ⟨rfl, rfl⟩

theorem handled_hit (tag : SyncType) (s : State) : Handled s (hit m17core tag s) := by
  rw [hit_eq]
  exact ⟨emits_units s _ _ _ _ _ _ _ _ _ _ _, rfl, rfl, rfl, rfl, rfl, rfl, rfl⟩

theorem handled_handleLsfSync (s : State) : Handled s (handleLsfSync m17core s) := by
  rcases handleLsfSync_cases s with ⟨-, heq⟩ | ⟨-, ⟨-, heq⟩ | ⟨-, -, heq⟩ | ⟨-, -, -, heq⟩ | ⟨-, -, -, heq⟩⟩ <;> rw [heq]
  · exact Handled.refl s
  · exact handled_hit _ s
  · exact handled_hit _ s
  · exact ⟨emits_units s _ _ _ _ _ _ _ _ _ _ _, rfl, rfl, rfl, rfl, rfl, rfl, rfl⟩
  · exact ⟨emits_units s _ _ _ _ _ _ _ _ _ _ _, rfl, rfl, rfl, rfl, rfl, rfl, rfl⟩

theorem handled_handleResync (w : SynSel) (sign : SyncSign) (tag : SyncType) (fallback : DemodState) (s : State) :
    Handled s (handleResync m17core w sign tag fallback s) := by
  rcases handleResync_cases w sign tag fallback s with ⟨-, -, heq⟩ | ⟨-, -, heq⟩ | ⟨-, -, -, heq⟩ | ⟨-, -, -, heq⟩ |
    ⟨-, -, heq⟩ <;> rw [heq] <;> cases w <;>
    exact ⟨emits_units s _ _ _ _ _ _ _ _ _ _ _, rfl, rfl, rfl, rfl, rfl, rfl, rfl⟩

theorem handled_frameDone (frame : List Llr) (acc : Bool) (s : State) : Handled s (frameDone m17core frame acc s) := by
  have hevents := isEvents_fdDecode s.dem.syncWordType acc frame s.fd s.vit
  by_cases hlimit : 75 < strike (fdDecode m17core s.dem.syncWordType acc frame s.fd s.vit).cost s.dem.costCount
  · rw [frameDone_of_lt rfl rfl hlimit]
    exact ⟨⟨⟨_, hevents, rfl⟩, rfl, rfl, rfl, rfl, rfl, rfl⟩, rfl, rfl, rfl, rfl, rfl, rfl, rfl⟩
  · rw [frameDone_of_not_lt rfl rfl rfl hlimit]
    exact ⟨⟨⟨_, hevents, rfl⟩, rfl, rfl, rfl, rfl, rfl, rfl⟩, rfl, rfl, rfl, rfl, rfl, rfl, rfl⟩

theorem handled_handleFrame (y : RealVal) (acc : Bool) (s : State) : Handled s (handleFrame m17core y acc s) := by
  have hpush (frm : Frm) : Handled s { s with frm := frm } :=
    ⟨emits_units s _ _ _ _ _ _ _ _ _ _ _, rfl, rfl, rfl, rfl, rfl, rfl, rfl⟩
  by_cases hphase : corIndex s.cor = s.dem.sampleIndex
  · by_cases hlast : s.frm.count + 2 = 368
    · rw [handleFrame_of_eq hphase rfl hlast]
      exact (hpush _).trans (handled_frameDone _ acc _)
    · rw [handleFrame_of_ne hphase rfl hlast]
      exact hpush _
  · rw [handleFrame_of_otherPhase hphase]
    exact Handled.refl s

theorem handled_demHandler (y : RealVal) (acc : Bool) (s : State) : Handled s (demHandler m17core y acc s) := by
  rw [demHandler]
  split
  · rw [handleUnlocked]
    split
    · exact handled_searchPreamble s
    · exact handled_searchFallback s
  · exact handled_handleLsfSync s
  · exact handled_handleResync _ _ _ _ s
  · exact handled_handleResync _ _ _ _ s
  · exact handled_handleResync _ _ _ _ s
  · exact handled_handleFrame y acc s

/-! ### The other steps -/

theorem emits_clockHousekeeping (s : State) : Emits s (clockHousekeeping s) := by
  rcases clockHousekeeping_cases s with ⟨-, heq⟩ | ⟨-, -, heq⟩ | ⟨-, -, heq⟩ <;> rw [heq]
  · exact emits_units s _ _ _ _ _ _ _ _ _ _ _
  · exact emits_units s _ _ _ _ _ _ _ _ _ _ _
  · exact Emits.refl s

theorem emits_dcdPoll (s : State) : Emits s (dcdPoll m17core s) := by
  rcases dcdPoll_cases s with ⟨-, heq⟩ | ⟨-, ⟨-, -, heq⟩ | ⟨-, -, heq⟩ | ⟨-, heq⟩⟩ <;> rw [heq]
  · exact emits_units s _ _ _ _ _ _ _ _ _ _ _
  · exact (emits_units s _ _ _ _ _ _ _ _ _ _ _).trans (emits_diagEmit _)
  · exact (emits_units s _ _ _ _ _ _ _ _ _ _ _).trans (emits_diagEmit _)
  · exact emits_units s _ _ _ _ _ _ _ _ _ _ _

theorem emits_diagTick (s : State) : Emits s (diagTick m17core s) := by
  rw [diagTick]
  split
  · exact (emits_units s _ _ _ _ _ _ _ _ _ _ _).trans (emits_diagEmit _)
  · exact emits_units s _ _ _ _ _ _ _ _ _ _ _

/-- The first three steps of rule R271, where the matched filter has one tap (log entry 6). -/
def demHeard (r : RealVal) (s : State) : State :=
  { s with dcd := dcdSample m17core r s.dcd, dem := { s.dem with mf := [r] }, cor := corSample m17core r s.cor }

/-- The clock housekeeping, at phase 0 only. -/
def demKept (r : RealVal) (s : State) : State :=
  if corIndex (demHeard r s).cor = 0 then clockHousekeeping (demHeard r s) else demHeard r s

/-- The state the handler finds; the deviation unit's sample changes nothing (log entry 6). -/
def demPrepared (r : RealVal) (s : State) : State :=
  { demKept r s with clk := clkSample r (demKept r s).clk }

/-- The identity estimator takes a sample without a change. -/
theorem demDevSample_eq (y : RealVal) (s : State) : demDevSample m17core y s = s := by
  rw [demDevSample]
  split <;> rfl

theorem mfOutput_mfShift (r : RealVal) (mf : List RealVal) : mfOutput m17core (mfShift m17core r mf) = r := by
  change 0 + 1 * r = r
  rw [one_mul, zero_add]

theorem demSample_eq (acc : Bool) (r : RealVal) (s : State) :
    demSample m17core acc r s = diagTick m17core (dcdPoll m17core (demHandler m17core r acc (demPrepared r s))) := by
  have hgate : m17core.gateOnDcd = false := rfl
  rw [demSample, mfOutput_mfShift, hgate, Bool.false_and, if_neg Bool.false_ne_true, demReceive, demDevSample_eq]
  rfl

theorem emits_demPrepared (r : RealVal) (s : State) : Emits s (demPrepared r s) := by
  have hheard : Emits s (demHeard r s) := emits_units s _ _ _ _ _ _ _ _ _ _ _
  have hkept : Emits (demHeard r s) (demKept r s) := by
    rw [demKept]
    split
    · exact emits_clockHousekeeping _
    · exact Emits.refl _
  exact (hheard.trans hkept).trans (emits_units (demKept r s) _ _ _ _ _ _ _ _ _ _ _)

/-- Rule R355 (a). -/
theorem emits_demSample (acc : Bool) (r : RealVal) (s : State) : Emits s (demSample m17core acc r s) := by
  rw [demSample_eq]
  exact (emits_demPrepared r s).trans ((handled_demHandler r acc _).toEmits.trans ((emits_dcdPoll _).trans (emits_diagTick _)))

/-! ### DEM_SAMPLE -/

/-- The response word: state and carrier decision after the step. -/
def demWord (s : State) : Word32 :=
  wordOfFields [field 0 3 (demodCode s.dem.state), field 8 1 s.dem.dcd.toNat]

theorem exec_demSample {x : Word32} {r : RealVal} (h : realOfF32 x = some r) (accept : Bool) (s : State) :
    exec (.demSample accept x) s =
      .next { demSample m17core accept r s with
        rsp := (demSample m17core accept r s).rsp ++ [0x90000001, demWord (demSample m17core accept r s)] } :=
  (withSample_of_some h _ s _).trans (congrArg Host.Outcome.next (respond_word 0x90 _ _))

theorem near_iff (a b : Fin 10) : near a b = true ↔ ((a.val : Int) - b.val).natAbs ∈ [0, 1, 9] := by
  revert a b
  decide

theorem reconcile_eq (c sync cur : Fin 10) :
    reconcile c sync cur =
      if ((c.val : Int) - cur.val).natAbs ∈ [0, 1, 9] then c
      else if ((sync.val : Int) - cur.val).natAbs ∈ [0, 1, 9] then sync else cur := by
  simp only [reconcile, near_iff]

/-- Settles O53: `demSample_eq` names the nine steps, `emits_demSample` what they leave alone, and the housekeeping is
`clockHousekeeping_cases`. -/
theorem demSampleCompletes : Obligations.DemSampleCompletes := by
  refine ⟨fun accept x r s hx => ?sample, fun s => ?housekeeping⟩
  case sample =>
    intro raw heard kept timed sampled t
    have hsampled : sampled = demPrepared r s := demDevSample_eq r (demPrepared r s)
    have ht : t = demSample m17core accept r s := by
      rw [demSample_eq, ← hsampled]
    obtain ⟨⟨ws, -, hrsp⟩, hinput, hindex, hcore, hcfg, hcrc, hmem⟩ := emits_demSample accept r s
    rw [← ht] at hrsp hinput hindex hcore hcfg hcrc hmem
    refine ⟨ws, demWord t, ?_, hrsp, ?_, ?_, ?_, ?_, hinput, hindex, hcore, hcfg, hcrc, hmem⟩
    · rw [exec_demSample hx, ← ht]
    all_goals simp [demWord, BitVec.extractLsb'_or]
  case housekeeping =>
    intro apart
    rcases clockHousekeeping_cases s with ⟨hreset, heq⟩ | ⟨hreset, hupdate, heq⟩ | ⟨hreset, hupdate, heq⟩
    · exact ⟨fun _ => heq, fun h => absurd (hreset.symm.trans h) (by decide), fun h => absurd (hreset.symm.trans h) (by decide)⟩
    · refine ⟨fun h => absurd (hreset.symm.trans h) (by decide), fun _ _ => ⟨_, exec_clkUpdate s, ?_⟩,
        fun _ h => absurd (hupdate.symm.trans h) (by decide)⟩
      rw [heq, reconcile_eq]
    · exact ⟨fun h => absurd (hreset.symm.trans h) (by decide), fun _ h => absurd (hupdate.symm.trans h) (by decide),
        fun _ _ => heq⟩

end Sys2Proof.Machine

/-! SUPPORT. The transition table of the demodulator (spec/48_demodulator.md rule R298): the state the handler finds, what the
poll after it can do, the transitions out of each state, and the statement. -/

namespace Sys2Proof.Machine

open Sys2Proof

/-! ### The state the handler finds -/

/-- The sampling phase after the clock housekeeping. -/
def demPhase (r : RealVal) (s : State) : Fin 10 :=
  (if corIndex (corSample m17core r s.cor) = 0 then clockHousekeeping s else s).dem.sampleIndex

/-- Of the registers the handlers use, the steps before them change the correlator, the phase and the clock flags only. -/
theorem demPrepared_eq (r : RealVal) (s : State) :
    ∃ (clk : Clk) (reset update : Bool), demPrepared r s = { s with
      dcd := dcdSample m17core r s.dcd
      cor := corSample m17core r s.cor
      clk := clk
      dem := { s.dem with
        mf := [r], sampleIndex := demPhase r s, needClockReset := reset, needClockUpdate := update } } := by
  by_cases hphase : corIndex (corSample m17core r s.cor) = 0
  · have hkept : demKept r s = clockHousekeeping (demHeard r s) := if_pos hphase
    have hat : demPhase r s = (clockHousekeeping s).dem.sampleIndex :=
      congrArg (fun u : State => u.dem.sampleIndex) (if_pos hphase)
    rw [demPrepared, hkept, hat]
    rcases clockHousekeeping_cases s with ⟨hreset, heq⟩ | ⟨hreset, hupdate, heq⟩ | ⟨hreset, hupdate, heq⟩
    · have hheard : clockHousekeeping (demHeard r s) = _ := if_pos hreset
      rw [heq, hheard]
      exact ⟨_, _, _, rfl⟩
    · have hheard : clockHousekeeping (demHeard r s) = _ :=
        (if_neg (Bool.not_eq_true _ ▸ hreset)).trans (if_pos hupdate)
      rw [heq, hheard]
      exact ⟨_, _, _, rfl⟩
    · have hheard : clockHousekeeping (demHeard r s) = demHeard r s :=
        (if_neg (Bool.not_eq_true _ ▸ hreset)).trans (if_neg (Bool.not_eq_true _ ▸ hupdate))
      rw [heq, hheard]
      exact ⟨_, _, _, rfl⟩
  · have hkept : demKept r s = demHeard r s := if_neg hphase
    have hat : demPhase r s = s.dem.sampleIndex := congrArg (fun u : State => u.dem.sampleIndex) (if_neg hphase)
    rw [demPrepared, hkept, hat]
    exact ⟨_, _, _, rfl⟩

/-! ### The poll after the handler -/

/-- From `u` to `t` no carrier was lost: the state and what goes with it stay; the counters are cleared and the decoder reset
only when a carrier came on. -/
structure CarrierNotLost (u t : State) : Prop where
  state : t.dem.state = u.dem.state
  sampleIndex : t.dem.sampleIndex = u.dem.sampleIndex
  syncSampleIndex : t.dem.syncSampleIndex = u.dem.syncSampleIndex
  syncWordType : t.dem.syncWordType = u.dem.syncWordType
  needClockUpdate : t.dem.needClockUpdate = u.dem.needClockUpdate
  needClockReset : u.dem.needClockReset = true → t.dem.needClockReset = true
  syncCount : u.dem.syncCount = 0 → t.dem.syncCount = 0
  misses : u.dem.missingSyncCount = 0 → t.dem.missingSyncCount = 0
  missesKept : t.dem.dcd = u.dem.dcd → t.dem.missingSyncCount = u.dem.missingSyncCount
  costCount : u.dem.costCount = 0 → t.dem.costCount = 0
  frm : u.frm.count = 0 → t.frm.count = 0
  fd : t.fd = u.fd ∨ t.fd = fdReset u.fd
  fdKept : t.dem.dcd = u.dem.dcd → t.fd = u.fd

/-- The carrier was lost at a poll (rule R277). -/
structure CarrierLost (u t : State) : Prop where
  poll : u.dem.pollCount = 959
  before : u.dem.dcd = true
  locked : (dcdUpdate m17core u.dcd).locked = false
  after : t.dem.dcd = false
  state : t.dem.state = .unlocked
  fd : t.fd = fdReset u.fd
  misses : t.dem.missingSyncCount = 0
  costCount : t.dem.costCount = 0

/-- The tick changes its counter and the response stream only. -/
theorem diagTick_exists (s : State) :
    ∃ ws n, diagTick m17core s = { s with rsp := s.rsp ++ ws, dem := { s.dem with diagCount := n } } := by
  rw [diagTick]
  split
  · rw [diagEmit_eq]
    exact ⟨_, 0, rfl⟩
  · exact ⟨[], s.dem.diagCount + 1, by simp⟩

theorem poll_cases {u t : State} {ws : List Word32} (h : t = { diagTick m17core (dcdPoll m17core u) with rsp := ws }) :
    CarrierLost u t ∨ CarrierNotLost u t := by
  obtain ⟨vs, n, htick⟩ := diagTick_exists (dcdPoll m17core u)
  rw [htick] at h
  subst h
  rcases dcdPoll_cases u with ⟨-, heq⟩ | ⟨hpoll, ⟨hbefore, -, heq⟩ | ⟨hbefore, hlocked, heq⟩ | ⟨-, heq⟩⟩ <;> rw [heq]
  · exact .inr ⟨rfl, rfl, rfl, rfl, rfl, id, id, id, fun _ => rfl, id, id, .inl rfl, fun _ => rfl⟩
  · rw [dcdOn, diagEmit_eq]
    have hchanged {p : Prop} (h : true = u.dem.dcd) : p := absurd (h.trans hbefore) (by decide)
    exact .inr ⟨rfl, rfl, rfl, rfl, rfl, fun _ => rfl, fun _ => rfl, fun _ => rfl, hchanged, fun _ => rfl, fun _ => rfl,
      .inr rfl, hchanged⟩
  · rw [dcdOff, diagEmit_eq]
    exact .inl ⟨by omega, hbefore, hlocked, rfl, rfl, rfl, rfl, rfl⟩
  · exact .inr ⟨rfl, rfl, rfl, rfl, rfl, id, id, id, fun _ => rfl, id, id, .inl rfl, fun _ => rfl⟩

/-! ### The transitions out of each state -/

/-- What a detection at phase `i` leaves (rule R281). -/
def FoundAt (t : State) (i : Fin 10) (tag : SyncType) : Prop :=
  t.dem.sampleIndex = i ∧ t.dem.syncSampleIndex = i ∧ t.dem.syncWordType = tag ∧ t.dem.missingSyncCount = 0 ∧
    t.dem.syncCount = 0 ∧ t.dem.needClockReset = true

section
variable {u t : State} {y : RealVal} {acc : Bool} (hkept : CarrierNotLost (demHandler m17core y acc u) t)
include hkept

theorem CarrierNotLost.foundAt {i : Fin 10} {next : DemodState} {tag : SyncType}
    (h : (demHandler m17core y acc u).dem = foundDem i next tag u.dem) : t.dem.state = next ∧ FoundAt t i tag := by
  refine ⟨hkept.state.trans ?_, hkept.sampleIndex.trans ?_, hkept.syncSampleIndex.trans ?_, hkept.syncWordType.trans ?_,
    hkept.misses ?_, hkept.syncCount ?_, hkept.needClockReset ?_⟩ <;> rw [h] <;> rfl

/-- Rules R280, R281. -/
theorem unlocked_next (hstate : u.dem.state = .unlocked) (hchange : t.dem.state ≠ .unlocked) :
    (t.dem.state = .lsfSync ∧
      (if u.dem.missingSyncCount < 1920 then
        (steppedSyn m17core .preamble u).updated ≠ .zero ∧
          FoundAt t (steppedSyn m17core .preamble u).timingIndex u.dem.syncWordType
       else if (steppedSyn m17core .lsf u).updated ≠ .zero then
        FoundAt t (steppedSyn m17core .lsf u).timingIndex u.dem.syncWordType
       else (steppedSyn m17core .packet u).updated = .plus ∧
          FoundAt t (steppedSyn m17core .packet u).timingIndex u.dem.syncWordType)) ∨
    (t.dem.state = .frame ∧ 1920 ≤ u.dem.missingSyncCount ∧ (steppedSyn m17core .lsf u).updated = .zero ∧
      (steppedSyn m17core .packet u).updated = .minus ∧ FoundAt t (steppedSyn m17core .packet u).timingIndex .bert) := by
  have hhandler := demHandler_of_unlocked hstate y acc
  rcases Nat.lt_or_ge u.dem.missingSyncCount 1920 with hpreamble | hfallback
  · rw [if_pos hpreamble] at hhandler ⊢
    rcases searchPreamble_cases u with ⟨-, heq⟩ | ⟨hedge, heq⟩ <;> rw [heq] at hhandler
    · exact absurd (hkept.state.trans (by rw [hhandler]; exact hstate)) hchange
    · obtain ⟨hnext, hfound⟩ := hkept.foundAt (congrArg State.dem hhandler)
      exact .inl ⟨hnext, hedge, hfound⟩
  · rw [if_neg (not_lt.2 hfallback)] at hhandler ⊢
    rcases searchFallback_cases u with ⟨hlsf, heq⟩ | ⟨hlsf, hpkt, heq⟩ | ⟨hlsf, hpkt, heq⟩ | ⟨-, -, heq⟩ <;>
      rw [heq] at hhandler
    · obtain ⟨hnext, hfound⟩ := hkept.foundAt (congrArg State.dem hhandler)
      rw [if_pos hlsf]
      exact .inl ⟨hnext, hfound⟩
    · obtain ⟨hnext, hfound⟩ := hkept.foundAt (congrArg State.dem hhandler)
      exact .inr ⟨hnext, hfallback, hlsf, hpkt, hfound⟩
    · obtain ⟨hnext, hfound⟩ := hkept.foundAt (congrArg State.dem hhandler)
      rw [if_neg (not_not.2 hlsf)]
      exact .inl ⟨hnext, hpkt, hfound⟩
    · exact absurd (hkept.state.trans (by rw [hhandler]; exact hstate)) hchange

/-- Rules R283, R284. -/
theorem lsfSync_next (hstate : u.dem.state = .lsfSync) (hchange : t.dem.state ≠ .lsfSync) :
    (t.dem.state = .frame ∧ corIndex u.cor = u.dem.sampleIndex ∧ strongNow m17core u .preamble = false ∧
      (if strongNow m17core u .lsf = true then
        t.dem.syncWordType = (if 0 < synTriggered m17core u.cor .lsf then .lsf else .stream)
       else strongNow m17core u .packet = true ∧
        t.dem.syncWordType = (if 0 < synTriggered m17core u.cor .packet then .packet else .bert)) ∧
      t.dem.missingSyncCount = 0 ∧ t.dem.needClockUpdate = true ∧ t.dem.syncSampleIndex = u.dem.sampleIndex) ∨
    (t.dem.state = .unlocked ∧ corIndex u.cor = u.dem.sampleIndex ∧ strongNow m17core u .preamble = false ∧
      strongNow m17core u .lsf = false ∧ strongNow m17core u .packet = false ∧ 192 ≤ u.dem.missingSyncCount + 1 ∧
      t.fd = fdReset u.fd ∧ t.dem.missingSyncCount = 0) := by
  have hhandler := demHandler_of_lsfSync hstate y acc
  have hhit {tag : SyncType} (h : demHandler m17core y acc u = hit m17core tag u) :
      t.dem.state = .frame ∧ t.dem.syncWordType = tag ∧ t.dem.missingSyncCount = 0 ∧ t.dem.needClockUpdate = true ∧
        t.dem.syncSampleIndex = u.dem.sampleIndex := by
    rw [hit_eq] at h
    refine ⟨hkept.state.trans ?_, hkept.syncWordType.trans ?_, hkept.misses ?_, hkept.needClockUpdate.trans ?_,
      hkept.syncSampleIndex.trans ?_⟩ <;> rw [h]
  rcases handleLsfSync_cases u with ⟨-, heq⟩ | ⟨htests, hcases⟩
  · exact absurd (hkept.state.trans (by rw [hhandler, heq, hstate])) hchange
  obtain ⟨hphase, hpreamble⟩ := not_or.1 htests
  replace hphase := not_not.1 hphase
  replace hpreamble := Bool.not_eq_true _ ▸ hpreamble
  rcases hcases with ⟨hlsf, heq⟩ | ⟨hlsf, hpacket, heq⟩ | ⟨-, -, -, heq⟩ | ⟨hlsf, hpacket, hmisses, heq⟩ <;>
    rw [heq] at hhandler
  · obtain ⟨hnext, htag, hmiss, hupdate, hindex⟩ := hhit hhandler
    exact .inl ⟨hnext, hphase, hpreamble, (if_pos hlsf).symm ▸ htag, hmiss, hupdate, hindex⟩
  · obtain ⟨hnext, htag, hmiss, hupdate, hindex⟩ := hhit hhandler
    have hlsf' : ¬ strongNow m17core u .lsf = true := by rw [hlsf]; decide
    exact .inl ⟨hnext, hphase, hpreamble, (if_neg hlsf').symm ▸ ⟨hpacket, htag⟩, hmiss, hupdate, hindex⟩
  · exact absurd (hkept.state.trans (by rw [hhandler]; exact hstate)) hchange
  · refine .inr ⟨hkept.state.trans (by rw [hhandler]), hphase, hpreamble, hlsf, hpacket, hmisses, ?_,
      hkept.misses (by rw [hhandler])⟩
    rcases hkept.fd with hfd | hfd
    · rw [hfd, hhandler]
    · rw [hfd, hhandler]
      rfl

/-- Rules R285, R290, R291, for each row of the re-sync table. -/
theorem resync_next {w : SynSel} {sign : SyncSign} {tag : SyncType} {fallback : DemodState}
    (hrow : (u.dem.state, w, sign, tag, fallback) ∈
      [ (DemodState.streamSync, SynSel.lsf, SyncSign.minus, SyncType.stream, DemodState.lsfSync),
        (.packetSync, .packet, .plus, .packet, .unlocked), (.bertSync, .packet, .minus, .bert, .unlocked) ])
    (hchange : t.dem.state ≠ u.dem.state) :
    (t.dem.state = .frame ∧ t.dem.syncWordType = tag ∧
      (((steppedSyn m17core w u).updated = sign ∧ 70 < u.dem.syncCount + 1 ∧ t.dem.missingSyncCount = 0 ∧
          t.dem.syncSampleIndex = (steppedSyn m17core w u).timingIndex) ∨
       ((steppedSyn m17core w u).updated ≠ sign ∧ 87 < u.dem.syncCount + 1 ∧ u.dem.missingSyncCount + 1 < 8 ∧
          (t.dem.dcd = u.dem.dcd → t.dem.missingSyncCount = u.dem.missingSyncCount + 1)))) ∨
    (t.dem.state = fallback ∧ (steppedSyn m17core w u).updated ≠ sign ∧ 87 < u.dem.syncCount + 1 ∧
      8 ≤ u.dem.missingSyncCount + 1 ∧ t.dem.missingSyncCount = 0 ∧
      (fallback = .unlocked → t.fd = fdReset u.fd) ∧ (fallback ≠ .unlocked → t.dem.dcd = u.dem.dcd → t.fd = u.fd)) := by
  have hhandler := demHandler_of_resync hrow y acc
  rcases handleResync_cases w sign tag fallback u with ⟨hedge, hmin, heq⟩ | ⟨-, -, heq⟩ | ⟨hedge, hmax, hmisses, heq⟩ |
    ⟨hedge, hmax, hmisses, heq⟩ | ⟨-, -, heq⟩ <;> rw [heq] at hhandler
  · refine .inl ⟨hkept.state.trans ?_, hkept.syncWordType.trans ?_, .inl ⟨hedge, hmin, hkept.misses ?_,
      hkept.syncSampleIndex.trans ?_⟩⟩ <;> rw [hhandler]
  · exact absurd (hkept.state.trans (by rw [hhandler])) hchange
  · refine .inl ⟨hkept.state.trans (by rw [hhandler]), hkept.syncWordType.trans (by rw [hhandler]),
      .inr ⟨hedge, hmax, hmisses, fun hcarrier => (hkept.missesKept ?_).trans (by rw [hhandler])⟩⟩
    rw [hhandler]
    exact hcarrier
  · refine .inr ⟨hkept.state.trans (by rw [hhandler]), hedge, hmax, not_lt.1 hmisses, hkept.misses (by rw [hhandler]),
      fun hunlocked => ?_, fun hlocked hcarrier => (hkept.fdKept ?_).trans ?_⟩
    · rcases hkept.fd with hfd | hfd
      · rw [hfd, hhandler, hunlocked]
        rfl
      · rw [hfd, hhandler, hunlocked]
        rfl
    · rw [hhandler]
      exact hcarrier
    · rw [hhandler]
      exact if_neg hlocked
  · exact absurd (hkept.state.trans (by rw [hhandler])) hchange

/-- Rules R292 to R297: the frame completes, and is struck out or goes on. -/
theorem frame_next (hstate : u.dem.state = .frame) (hchange : t.dem.state ≠ .frame) {a b : Llr}
    (hab : m17core.llrMap (softSymbol u y) = (a, b)) {o : FdOut}
    (ho : o = fdDecode m17core u.dem.syncWordType acc (u.frm.buf.toList.take 366 ++ [a, b]) u.fd u.vit) :
    corIndex u.cor = u.dem.sampleIndex ∧ u.frm.count = 366 ∧ t.frm.count = 0 ∧ t.dem.needClockUpdate = true ∧
    (if 75 < strike o.cost u.dem.costCount then
      t.dem.state = .unlocked ∧ t.fd = fdReset o.fd ∧ t.dem.costCount = 0
     else t.dem.state = nextState o.result o.fd.state) := by
  have hhandler := demHandler_of_frame hstate y acc
  by_cases hphase : corIndex u.cor = u.dem.sampleIndex
  · by_cases hlast : u.frm.count + 2 = 368
    · have hcount : u.frm.count = 366 := by omega
      have hdecode : fdDecode m17core u.dem.syncWordType acc (frmStore a b u.frm).toList u.fd u.vit = o := by
        rw [ho, toList_frmStore_of_last a b hcount]
      rw [handleFrame_of_eq hphase hab hlast] at hhandler
      by_cases hlimit : 75 < strike o.cost u.dem.costCount
      · replace hhandler := hhandler.trans (frameDone_of_lt (o := o) hdecode rfl hlimit)
        refine ⟨hphase, hcount, hkept.frm (by rw [hhandler]), hkept.needClockUpdate.trans (by rw [hhandler]), ?_⟩
        rw [if_pos hlimit]
        refine ⟨hkept.state.trans (by rw [hhandler]), ?_, hkept.costCount (by rw [hhandler])⟩
        rcases hkept.fd with hfd | hfd
        · rw [hfd, hhandler]
        · rw [hfd, hhandler]
          rfl
      · replace hhandler := hhandler.trans (frameDone_of_not_lt (o := o) hdecode rfl rfl hlimit)
        refine ⟨hphase, hcount, hkept.frm (by rw [hhandler]), hkept.needClockUpdate.trans (by rw [hhandler]), ?_⟩
        rw [if_neg hlimit]
        exact hkept.state.trans (by rw [hhandler])
    · rw [handleFrame_of_ne hphase hab hlast] at hhandler
      exact absurd (hkept.state.trans (by rw [hhandler]; exact hstate)) hchange
  · rw [handleFrame_of_otherPhase hphase] at hhandler
    exact absurd (hkept.state.trans (by rw [hhandler, hstate])) hchange

end

/-- Settles O54: a carrier loss, or the transitions out of the state the sample found. -/
theorem demodulatorTransitionsAreTheTable : Obligations.DemodulatorTransitionsAreTheTable := by
  intro accept x r s t hx hexec hchange cor edge value strong at_ n misses level o strikes carrierKept cleared found retaken
    givenUp complete
  obtain ⟨clk, reset, update, hprepared⟩ := demPrepared_eq r s
  have ht : t = { demSample m17core accept r s with
      rsp := (demSample m17core accept r s).rsp ++ [0x90000001, demWord (demSample m17core accept r s)] } :=
    (Host.Outcome.next.inj ((exec_demSample hx accept s).symm.trans hexec)).symm
  generalize (demSample m17core accept r s).rsp ++ [0x90000001, demWord (demSample m17core accept r s)] = ws at ht
  rw [demSample_eq, hprepared] at ht
  have hhandled := handled_demHandler r accept { s with
    dcd := dcdSample m17core r s.dcd
    cor := corSample m17core r s.cor
    clk := clk
    dem := { s.dem with
      mf := [r], sampleIndex := demPhase r s, needClockReset := reset, needClockUpdate := update } }
  rcases poll_cases ht with hlost | hkept
  · have hfd := hlost.fd
    exact .inl ⟨hhandled.carrier.symm.trans hlost.before, hlost.after, hlost.state, hhandled.pollCount.symm.trans hlost.poll,
      (congrArg (fun d => (dcdUpdate m17core d).locked) hhandled.dcd).symm.trans hlost.locked, by rw [hfd]; rfl, by rw [hfd]; rfl, by rw [hfd]; rfl, by rw [hfd]; rfl, hlost.misses,
      hlost.costCount⟩
  right
  cases hs : s.dem.state with
  | unlocked =>
    rcases unlocked_next hkept hs (hs ▸ hchange) with ⟨hnext, hrow⟩ | ⟨hnext, hrow⟩ <;> rw [hnext] <;> exact hrow
  | lsfSync =>
    rcases lsfSync_next hkept hs (hs ▸ hchange) with ⟨hnext, hrow⟩ | ⟨hnext, hrow⟩ <;> rw [hnext] <;> exact hrow
  | streamSync =>
    have hrow := resync_next hkept (w := .lsf) (sign := .minus) (tag := .stream) (fallback := .lsfSync) (by simp [hs]) hchange
    rcases hrow with ⟨hnext, htag, hretaken⟩ | ⟨hnext, hedge, hmax, hmisses, hmiss, -, hfd⟩ <;> rw [hnext]
    · exact ⟨htag, hretaken⟩
    · exact ⟨⟨hedge, hmax, hmisses, hmiss⟩, hfd (by decide)⟩
  | packetSync =>
    have hrow := resync_next hkept (w := .packet) (sign := .plus) (tag := .packet) (fallback := .unlocked) (by simp [hs]) hchange
    rcases hrow with ⟨hnext, htag, hretaken⟩ | ⟨hnext, hedge, hmax, hmisses, hmiss, hfd, -⟩ <;> rw [hnext]
    · exact ⟨htag, hretaken⟩
    · exact ⟨⟨hedge, hmax, hmisses, hmiss⟩, hfd rfl⟩
  | bertSync =>
    have hrow := resync_next hkept (w := .packet) (sign := .minus) (tag := .bert) (fallback := .unlocked) (by simp [hs]) hchange
    rcases hrow with ⟨hnext, htag, hretaken⟩ | ⟨hnext, hedge, hmax, hmisses, hmiss, hfd, -⟩ <;> rw [hnext]
    · exact ⟨htag, hretaken⟩
    · exact ⟨⟨hedge, hmax, hmisses, hmiss⟩, hfd rfl⟩
  | frame =>
    obtain ⟨hphase, hcount, hempty, hupdate, hnext⟩ := frame_next hkept hs (hs ▸ hchange) rfl (o := o) rfl
    have hcomplete : complete := ⟨hphase, hcount, hempty, hupdate⟩
    have hstrikes : strike o.cost s.dem.costCount = strikes := strike_eq o.cost s.dem.costCount
    rw [hstrikes] at hnext
    by_cases hlimit : 75 < strikes
    · rw [if_pos hlimit] at hnext
      obtain ⟨hstate, hfd, hcost⟩ := hnext
      rw [hstate]
      exact ⟨hcomplete, hlimit, hfd, hcost⟩
    · rw [if_neg hlimit] at hnext
      replace hlimit := not_lt.1 hlimit
      rw [hnext]
      by_cases hend : o.result = .eos
      · rw [hend]
        exact ⟨hcomplete, hlimit, rfl⟩
      · have hgoes : nextState o.result o.fd.state = _ := if_neg hend
        rw [hgoes]
        cases hfd : o.fd.state with
        | lsf => exact ⟨hcomplete, hlimit, hend, .inl rfl⟩
        | stream => exact ⟨hcomplete, hlimit, hend, .inr rfl⟩
        | basicPacket => exact ⟨hcomplete, hlimit, hend, .inl rfl⟩
        | fullPacket => exact ⟨hcomplete, hlimit, hend, .inr rfl⟩
        | bert => exact ⟨hcomplete, hlimit, hend, rfl⟩

end Sys2Proof.Machine

/-! SUPPORT. Records of the response stream (spec/30_encoding.md rule R85): whole records are a list of `Record`s, and what the
record counters of rule R346 find in one. -/

namespace Sys2Proof.Machine

open Sys2Proof

/-! ### The header -/

theorem header_count (rop status : BitVec 8) {n : Nat} (h : n < 2 ^ 16) :
    ((rop ++ status ++ BitVec.ofNat 16 n).extractLsb' 0 16).toNat = n := by
  have hlow : (rop ++ status ++ BitVec.ofNat 16 n).extractLsb' 0 16 = BitVec.ofNat 16 n := by
    rw [BitVec.extractLsb'_append_eq_right]
  rw [hlow, BitVec.toNat_ofNat, Nat.mod_eq_of_lt h]

theorem header_fields (h : Word32) :
    h.extractLsb' 24 8 ++ h.extractLsb' 16 8 ++ BitVec.ofNat 16 (h.extractLsb' 0 16).toNat = h := by
  rw [BitVec.ofNat_toNat, BitVec.setWidth_eq]
  ext i hi
  simp only [BitVec.getElem_append, BitVec.getElem_extractLsb']
  split
  · simp [← BitVec.getLsbD_eq_getElem]
  · split
    · simp [show 16 + (i - 16) = i by omega, ← BitVec.getLsbD_eq_getElem]
    · simp [show 24 + (i - 16 - 8) = i by omega, ← BitVec.getLsbD_eq_getElem]

/-- The header's count holds the number of payload words. -/
def Record.Sized (r : Record) : Prop :=
  r.payload.length < 2 ^ 16

theorem Record.words_eq {r : Record} (hr : r.Sized) :
    ∃ h : Word32, r.words = h :: r.payload ∧ (h.extractLsb' 0 16).toNat = r.payload.length :=
  ⟨_, rfl, header_count r.rop r.status hr⟩

/-! ### Several records -/

theorem length_le_flatMap_words (rs : List Record) : rs.length ≤ (rs.flatMap Record.words).length := by
  induction rs with
  | nil => rfl
  | cons r rs ih =>
    rw [List.flatMap_cons, List.length_append, List.length_cons, Record.words, recordWords, List.length_cons]
    omega

section
variable {rs : List Record} (hsized : ∀ r ∈ rs, r.Sized)
include hsized

theorem countRecords_flatMap {fuel : Nat} (hfuel : rs.length ≤ fuel) :
    countRecords fuel (rs.flatMap Record.words) = rs.length := by
  induction rs generalizing fuel with
  | nil => cases fuel <;> rfl
  | cons r rs ih =>
    obtain ⟨fuel, rfl⟩ := Nat.exists_eq_add_one.2 (Nat.lt_of_lt_of_le (Nat.succ_pos _) hfuel)
    obtain ⟨h, hwords, hcount⟩ := Record.words_eq (hsized r List.mem_cons_self)
    rw [List.flatMap_cons, hwords, List.cons_append, countRecords, hcount, List.drop_left,
      ih (fun q hq => hsized q (List.mem_cons_of_mem r hq)) (Nat.le_of_succ_le_succ hfuel), List.length_cons, Nat.add_comm]

theorem firstRecords_flatMap {fuel : Nat} (hfuel : rs.length ≤ fuel) (k : Nat) :
    firstRecords fuel k (rs.flatMap Record.words) = (rs.take k).flatMap Record.words := by
  induction rs generalizing fuel k with
  | nil => cases fuel <;> cases k <;> rfl
  | cons r rs ih =>
    obtain ⟨fuel, rfl⟩ := Nat.exists_eq_add_one.2 (Nat.lt_of_lt_of_le (Nat.succ_pos _) hfuel)
    cases k with
    | zero => rfl
    | succ k =>
      obtain ⟨h, hwords, hcount⟩ := Record.words_eq (hsized r List.mem_cons_self)
      rw [List.take_succ_cons, List.flatMap_cons, List.flatMap_cons, hwords, List.cons_append, firstRecords, hcount]
      rw [List.take_left, List.drop_left,
        ih (fun q hq => hsized q (List.mem_cons_of_mem r hq)) (Nat.le_of_succ_le_succ hfuel)]

/-- Rule R346: the records that stand are the first ones, the last never. -/
theorem eventsBeforeReset_flatMap (k : Nat) :
    eventsBeforeReset k (rs.flatMap Record.words) = (rs.dropLast.take k).flatMap Record.words := by
  have hfuel := length_le_flatMap_words rs
  rw [eventsBeforeReset, countRecords_flatMap hsized hfuel, firstRecords_flatMap hsized hfuel, List.dropLast_eq_take,
    List.take_take]

theorem wholeRecordsAux_flatMap {fuel : Nat} (hfuel : rs.length ≤ fuel) :
    wholeRecordsAux fuel (rs.flatMap Record.words) = true := by
  induction rs generalizing fuel with
  | nil => cases fuel <;> rfl
  | cons r rs ih =>
    obtain ⟨fuel, rfl⟩ := Nat.exists_eq_add_one.2 (Nat.lt_of_lt_of_le (Nat.succ_pos _) hfuel)
    obtain ⟨h, hwords, hcount⟩ := Record.words_eq (hsized r List.mem_cons_self)
    rw [List.flatMap_cons, hwords, List.cons_append, wholeRecordsAux, hcount, List.drop_left,
      ih (fun q hq => hsized q (List.mem_cons_of_mem r hq)) (Nat.le_of_succ_le_succ hfuel)]
    simp

end

/-! ### Whole records -/

/-- The words are a list of records one after the other. -/
def IsRecords (ws : List Word32) : Prop :=
  ∃ rs : List Record, ws = rs.flatMap Record.words ∧ ∀ r ∈ rs, r.Sized

theorem isRecords_of_wholeRecordsAux {fuel : Nat} {ws : List Word32} (h : wholeRecordsAux fuel ws = true) : IsRecords ws := by
  induction fuel generalizing ws with
  | zero =>
    cases ws with
    | nil => exact ⟨[], rfl, nofun⟩
    | cons h ws => cases h
  | succ fuel ih =>
    cases ws with
    | nil => exact ⟨[], rfl, nofun⟩
    | cons header ws =>
      obtain ⟨hlen, hrest⟩ := Bool.and_eq_true_iff.1 h
      obtain ⟨rs, hrs, hsized⟩ := ih hrest
      have htake : (ws.take (header.extractLsb' 0 16).toNat).length = (header.extractLsb' 0 16).toNat :=
        List.length_take_of_le (of_decide_eq_true hlen)
      refine ⟨⟨header.extractLsb' 24 8, header.extractLsb' 16 8, ws.take (header.extractLsb' 0 16).toNat⟩ :: rs, ?_, ?_⟩
      · rw [List.flatMap_cons, ← hrs, Record.words, recordWords, htake, header_fields, List.cons_append, List.take_append_drop]
      · intro r hr
        rcases List.mem_cons.1 hr with rfl | hr
        · exact htake.trans_lt (header.extractLsb' 0 16).isLt
        · exact hsized r hr

/-- Rule R85 as a list of records. -/
theorem wholeRecords_iff {ws : List Word32} : wholeRecords ws = true ↔ IsRecords ws := by
  refine ⟨isRecords_of_wholeRecordsAux, fun ⟨rs, hrs, hsized⟩ => ?_⟩
  subst hrs
  exact wholeRecordsAux_flatMap hsized (length_le_flatMap_words rs)

theorem IsRecords.append {vs ws : List Word32} (hvs : IsRecords vs) (hws : IsRecords ws) : IsRecords (vs ++ ws) := by
  obtain ⟨rs, rfl, hrs⟩ := hvs
  obtain ⟨qs, rfl, hqs⟩ := hws
  exact ⟨rs ++ qs, List.flatMap_append.symm, fun r hr => (List.mem_append.1 hr).elim (hrs r) (hqs r)⟩

theorem isRecords_recordWords (rop status : BitVec 8) {vs : List Word32} (h : vs.length < 2 ^ 16) :
    IsRecords (recordWords rop status vs) :=
  ⟨[⟨rop, status, vs⟩], (List.append_nil _).symm, fun r hr => by rw [List.mem_singleton.1 hr]; exact h⟩

theorem IsEvents.isRecords {ws : List Word32} (h : IsEvents ws) : IsRecords ws := by
  obtain ⟨events, hws, hevents⟩ := h
  refine ⟨events, hws, fun e he => Nat.lt_of_le_of_lt (hevents e he).2 (by decide)⟩

theorem IsRecords.eventsBeforeReset {ws : List Word32} (h : IsRecords ws) (k : Nat) :
    IsRecords (eventsBeforeReset k ws) := by
  obtain ⟨rs, rfl, hsized⟩ := h
  exact ⟨rs.dropLast.take k, eventsBeforeReset_flatMap hsized k,
    fun r hr => hsized r (List.dropLast_subset rs (List.take_subset k _ hr))⟩

end Sys2Proof.Machine

/-! SUPPORT. What an operation does to the state (spec/30_encoding.md rules R80, R85; spec/60_exceptions.md rules R320, R322):
every operation either raises a fault, and then nothing of it happens, or leaves its `effect` and appends one response. -/

namespace Sys2Proof.Machine

open Sys2Proof

/-! ### The effect of an operation -/

/-- The value of a finite sample word. -/
def sampleValue (x : Word32) : RealVal :=
  (realOfF32 x).getD 0

/-- The state an operation that completes leaves before its response record; `exec_cases` ties it to the model. -/
def effect : Instr → State → State
  | .reset, s => s.resetRegisters m17core
  | .setCfg polarityNeg diagEnable, s => { s with cfg := { polarityNeg := polarityNeg, diagEnable := diagEnable } }
  | .crcReset, s => { s with crc := Config.CRC_SEED }
  | .crcUpdate b, s => { s with crc := crcUpdate s.crc b }
  | .crcUpdaten bytes, s => { s with crc := crcFold s.crc bytes }
  | .convEnc x, s => { s with cnvMem := (convBlock x).2 }
  | .vitDecode nOut l, s => { s with vit := s.vit.after (viterbi (l.map fun b => b.toInt) nOut.toNat) }
  | .corSample x, s => { s with cor := corSample m17core (sampleValue x) s.cor }
  | .syncStep w, s => s.setSyn w (synStep m17core s.cor w (s.syn w))
  | .syncUpdated w, s => s.setSyn w (synClear (s.syn w))
  | .dcdSample x, s => { s with dcd := dcdSample m17core (sampleValue x) s.dcd }
  | .dcdUpdate, s => { s with dcd := dcdUpdate m17core s.dcd }
  | .clkSample x, s => { s with clk := clkSample (sampleValue x) s.clk }
  | .clkUpdate, s => { s with clk := clkUpdate s.clk }
  | .clkReset, s => { s with clk := clkReset s.clk }
  | .frmPush a b, s => { s with frm := (frmPush a.toInt b.toInt s.frm).1 }
  | .frmReset, s => { s with frm := frmReset s.frm }
  | .fdDecode accept sync f, s => applyFd (fdDecode m17core sync accept (f.map fun b => b.toInt) s.fd s.vit) s
  | .fdReset, s => { s with fd := fdReset s.fd }
  | .demSample accept x, s => demSample m17core accept (sampleValue x) s
  | .encLsf _, s => { s with cnvMem := 0 }
  | .encStream _, s => { s with cnvMem := 0 }
  | .encPacket _, s => { s with cnvMem := 0 }
  | .encBert _, s => { s with cnvMem := 0 }
  | _, s => s

/-- The instruction is well-formed and its operands are in range. -/
structure Legal (i : Instr) : Prop where
  wellFormed : i.wellFormed = true
  llrs : ∀ b ∈ llrOperand i, inLlrRange b
  sample : ∀ x ∈ sampleOperand i, ¬ notFinite x

/-- A fault: nothing of the operation happens, the latch is written, the fault record appended. -/
def Faults (i : Instr) (s : State) : Prop :=
  ∃ c w, exec i s = .next (takeFault c w s)

/-- The operation leaves its effect and answers with one record of its own `op`. -/
def Completes (i : Instr) (s : State) : Prop :=
  ∃ status values, exec i s = .next (respond (opOf (commandWord i)) status values (effect i s)) ∧
    (i.wellFormed = true → values.length ≤ 122)

/-- The operation faults because it is not legal, or completes. -/
abbrev Concludes (i : Instr) (s : State) : Prop :=
  (¬ Legal i ∧ Faults i s) ∨ Completes i s

section
variable {i : Instr} {s : State} {op status : BitVec 8} {arg : Nat} {values : List Word32}

theorem completes_of_exec (hcmd : commandWord i = command op arg)
    (hexec : exec i s = .next (respond op status values (effect i s)))
    (hlen : i.wellFormed = true → values.length ≤ 122) : Completes i s := by
  refine ⟨status, values, ?_, hlen⟩
  rw [hcmd, Laws.PayloadLength.opOf_command]
  exact hexec

/-- An operation on one sample. -/
theorem concludes_of_sample {x w : Word32} {k : RealVal → State} (hx : x ∈ sampleOperand i) (hcmd : commandWord i = command op arg)
    (hexec : exec i s = withSample x w s k) (hk : k (sampleValue x) = respond op status values (effect i s))
    (hlen : values.length ≤ 122) : Concludes i s := by
  rcases withSample_cases x w s k with ⟨hnone, hfault⟩ | ⟨r, hsome, hnext⟩
  · exact .inl ⟨fun h => h.sample x hx ((realOfF32_eq_none_iff x).1 hnone), _, _, hexec.trans hfault⟩
  · have hvalue : sampleValue x = r := congrArg (Option.getD · 0) hsome
    exact .inr (completes_of_exec hcmd (hexec.trans (hnext.trans (congrArg Host.Outcome.next (hvalue ▸ hk)))) fun _ => hlen)

/-- An operation whose counts the model checks. -/
theorem concludes_of_wellFormed {r : Result} (c : FaultCause) (w : Word32)
    (hexec : exec i s = if i.wellFormed then r else .next (takeFault c w s))
    (h : i.wellFormed = true → exec i s = r → Concludes i s) :
    Concludes i s := by
  by_cases hwf : i.wellFormed = true
  · exact h hwf (hexec.trans (if_pos hwf))
  · exact .inl ⟨fun hlegal => hwf hlegal.wellFormed, _, _, hexec.trans (if_neg hwf)⟩

theorem concludes_of_badLlr (hbad : ¬ ∀ b ∈ llrOperand i, inLlrRange b) (hwf : i.wellFormed = true) :
    Concludes i s :=
  .inl ⟨fun hlegal => hbad hlegal.llrs, _, _, exec_of_badLlr hwf (by simpa using hbad) s⟩

end

/-! ### Lengths of the answers -/

theorem length_llrBytes (ls : List Llr) : (llrBytes ls).length = ls.length :=
  List.length_map _

theorem length_packBytes_llrs {ls : List Llr} (h : ls.length ≤ 488) : (packBytes (llrBytes ls)).length ≤ 122 := by
  rw [packBytes_length, length_llrBytes]
  omega

theorem maskCounts {n c : Nat} (h : maskCountsOk n c = true) : n ≤ 488 ∧ c ≤ 488 :=
  ⟨of_decide_eq_true (Bool.and_eq_true_iff.1 h).1, of_decide_eq_true (Bool.and_eq_true_iff.1 h).2⟩

/-! ### Every operation -/

theorem concludes_convEnc (x : List Bool) (s : State) : Concludes (.convEnc x) s := by
  refine concludes_of_wellFormed _ _ rfl fun hwf hexec => .inr (completes_of_exec rfl hexec fun _ => ?_)
  have hx : x.length ≤ 240 := of_decide_eq_true hwf
  rw [packBits_length, length_convEncode]
  omega

theorem concludes_puncture (mask : MaskSel) (nOut : BitVec 10) (x : List Bool) (s : State) :
    Concludes (.puncture mask nOut x) s := by
  refine concludes_of_wellFormed _ _ rfl fun hwf hexec => .inr (completes_of_exec rfl hexec fun _ => ?_)
  have hcap := (maskCounts hwf).2
  have hkept := length_puncture_le x (m17core.mask mask) nOut.toNat
  rw [List.length_cons, packBits_length]
  omega

theorem concludes_depuncture (mask : MaskSel) (nOut : BitVec 10) (y : List Byte) (s : State) :
    Concludes (.depuncture mask nOut y) s := by
  refine concludes_of_wellFormed _ _ rfl fun hwf _ => ?_
  by_cases hrange : ∀ b ∈ y, inLlrRange b
  · refine .inr (completes_of_exec rfl (exec_depuncture hwf hrange s) fun _ => length_packBytes_llrs ?_)
    rw [length_depuncture]
    exact (maskCounts hwf).2
  · exact concludes_of_badLlr hrange hwf

theorem concludes_vitDecode (nOut : BitVec 10) (l : List Byte) (s : State) :
    Concludes (.vitDecode nOut l) s := by
  refine concludes_of_wellFormed _ _ rfl fun hwf _ => ?_
  by_cases hrange : ∀ b ∈ l, inLlrRange b
  · refine .inr (completes_of_exec rfl (exec_vitDecode hwf hrange s) fun _ => ?_)
    have hbits : (viterbi (l.map fun b => b.toInt) nOut.toNat).bits.length ≤ nOut.toNat := by
      rw [viterbi_bits]
      exact List.length_take_le _ _
    have hout := nOut.isLt
    rw [List.length_cons, packBits_length]
    omega
  · exact concludes_of_badLlr hrange hwf

theorem concludes_llrMap (x : Word32) (s : State) : Concludes (.llrMap x) s := by
  cases h : realOfF32 x with
  | none =>
    have hbad := (realOfF32_eq_none_iff x).1 h
    exact .inl ⟨fun hlegal => hlegal.sample x rfl hbad, _, _, exec_of_notFinite rfl hbad s⟩
  | some r => exact .inr (completes_of_exec rfl (exec_llrMap h s) fun _ => length_packBytes_llrs (by simp))

/-- INTERLEAVE and DEINTERLEAVE. -/
theorem concludes_of_permute {i : Instr} {s : State} {op : BitVec 8} {f : List Bool → List Bool} {g : List Llr → List Llr}
    {x : FrameOperand} (hcmd : ∃ arg, commandWord i = command op arg) (heffect : effect i s = s)
    (hllr : ∀ l, x = .llrs l → llrOperand i = l) (hexec : exec i s = permuteFrame op f g (commandWord i) x s)
    (hf : i.wellFormed = true → ∀ b, x = .bits b → (f b).length = 368)
    (hg : i.wellFormed = true → ∀ l : List Byte, x = .llrs l → (g (l.map fun b => b.toInt)).length = 368) :
    Concludes i s := by
  obtain ⟨arg, hcmd⟩ := hcmd
  cases x with
  | bits b =>
    have hnext : exec i s = .next (respond op statusOk (packBits (f b)) s) := hexec
    refine .inr (completes_of_exec hcmd (hnext.trans (by rw [heffect])) fun hwf => ?_)
    rw [packBits_length, hf hwf b rfl]
    decide
  | llrs l =>
    by_cases hrange : ∀ b ∈ l, inLlrRange b
    · have hnext : exec i s = .next (respond op statusOk (packBytes (llrBytes (g (l.map fun b => b.toInt)))) s) := by
        simp only [hexec, permuteFrame, llrsOf_of_inRange hrange]
      exact .inr (completes_of_exec hcmd (hnext.trans (by rw [heffect])) fun hwf =>
        length_packBytes_llrs (by rw [hg hwf l rfl]; decide))
    · have hbad : ∃ b ∈ l, ¬ inLlrRange b := by simpa using hrange
      exact .inl ⟨fun hlegal => hrange (hllr l rfl ▸ hlegal.llrs), _, _, hexec.trans (permuteFrame_of_badLlr hbad _ _ _ _ s)⟩

theorem concludes_interleave (x : FrameOperand) (s : State) :
    Concludes (.interleave x) s := by
  refine concludes_of_permute (op := 0x50) (by cases x <;> exact ⟨_, rfl⟩) rfl (fun l h => by rw [h]; rfl) rfl
    (fun hwf b h => length_interleave false ?_) (fun hwf l h => length_interleave 0 ?_)
  · subst h; exact eq_of_beq hwf
  · subst h; exact (List.length_map _).trans (eq_of_beq hwf)

theorem concludes_deinterleave (x : FrameOperand) (s : State) :
    Concludes (.deinterleave x) s :=
  concludes_of_permute (op := 0x51) (by cases x <;> exact ⟨_, rfl⟩) rfl (fun l h => by rw [h]; rfl) rfl
    (fun _ b _ => length_deinterleave false b) (fun _ l _ => length_deinterleave 0 _)

theorem concludes_derandomize (l : List Byte) (s : State) :
    Concludes (.derandomize l) s := by
  by_cases hrange : ∀ b ∈ l, inLlrRange b
  · have hexec : exec (.derandomize l) s = .next (respond 0x53 statusOk
        (packBytes (llrBytes (derandomize m17core.randSeq (l.map fun b => b.toInt)))) s) := by
      simp only [exec, execDerandomize, execDerandomizeFor, llrsOf_of_inRange hrange]
    refine .inr (completes_of_exec rfl hexec fun hwf => length_packBytes_llrs ?_)
    have hl : (l.map fun b => b.toInt).length = 368 := (List.length_map _).trans (eq_of_beq hwf)
    rw [length_derandomize (hl.trans randSeq_bits.symm).le, hl]
    decide
  · have hexec : exec (.derandomize l) s = .next (takeFault .badOperand (commandWord (.derandomize l)) s) := by
      simp only [exec, execDerandomize, execDerandomizeFor, llrsOf_of_bad (show ∃ b ∈ l, ¬ inLlrRange b by simpa using hrange)]
    exact .inl ⟨fun hlegal => hrange hlegal.llrs, _, _, hexec⟩

theorem concludes_frmPush (a b : Byte) (s : State) :
    Concludes (.frmPush a b) s := by
  by_cases hrange : ∀ l ∈ [a, b], inLlrRange l
  · have hab : (llrOk a && llrOk b) = true :=
      Bool.and_eq_true_iff.2 ⟨(llrOk_iff a).2 (hrange a (by simp)), (llrOk_iff b).2 (hrange b (by simp))⟩
    have hexec : exec (.frmPush a b) s =
        .next (frmResponse (frmPush a.toInt b.toInt s.frm).2 (effect (.frmPush a b) s)) := if_pos hab
    rcases frmPush_cases a.toInt b.toInt s.frm with ⟨-, heq⟩ | ⟨-, heq⟩ <;> rw [congrArg Prod.snd heq] at hexec
    · exact .inr (completes_of_exec rfl hexec fun _ => length_packBytes_llrs (by rw [Vector.length_toList]; decide))
    · exact .inr (completes_of_exec rfl hexec fun _ => Nat.zero_le _)
  · exact concludes_of_badLlr hrange rfl

theorem concludes_fdDecode (accept : Bool) (sync : SyncType) (f : List Byte) (s : State) :
    Concludes (.fdDecode accept sync f) s := by
  by_cases hrange : ∀ b ∈ f, inLlrRange b
  · obtain ⟨o, ho⟩ : ∃ o, o = fdDecode m17core sync accept (f.map fun b => b.toInt) s.fd s.vit := ⟨_, rfl⟩
    have hexec : exec (.fdDecode accept sync f) s =
        .next (respond 0x88 (resultCode o.result) [BitVec.ofNat 32 o.cost] (applyFd o s)) := by
      simp only [exec, execFdDecode, execFdDecodeFor, llrsOf_of_inRange hrange, ← ho]
    have heffect : effect (.fdDecode accept sync f) s = applyFd o s := congrArg (applyFd · s) ho.symm
    exact .inr (completes_of_exec rfl (hexec.trans (by rw [heffect])) fun _ => by simp)
  · have hbad : ∃ b ∈ f, ¬ inLlrRange b := by simpa using hrange
    have hexec : exec (.fdDecode accept sync f) s = .next (takeFault .badOperand (commandWord (.fdDecode accept sync f)) s) := by
      simp only [exec, execFdDecode, execFdDecodeFor, llrsOf_of_bad hbad]
    exact .inl ⟨fun hlegal => hrange hlegal.llrs, _, _, hexec⟩

theorem concludes_encLich (n : BitVec 3) (bytes : List Byte) (s : State) :
    Concludes (.encLich n bytes) s := by
  by_cases hn : n.toNat ≤ 5
  · refine .inr (completes_of_exec rfl (exec_encLich hn bytes s) fun hwf => ?_)
    have hlen : bytes.length = 5 := eq_of_beq (Bool.and_eq_true_iff.1 hwf).2
    rw [packBits_length, length_encLich hlen]
    decide
  · exact .inl ⟨fun hlegal => hn (of_decide_eq_true (Bool.and_eq_true_iff.1 hlegal.wellFormed).1), _, _, if_neg hn⟩

/-- ENC_LSF, ENC_STREAM, ENC_PACKET and ENC_BERT. -/
theorem completes_of_frame {i : Instr} {s : State} {op : BitVec 8} {bits : List Bool} (hcmd : commandWord i = command op 0)
    (hexec : exec i s = .next (respondFrame op (finishFrame m17core bits) s)) (heffect : effect i s = { s with cnvMem := 0 })
    (hbits : i.wellFormed = true → bits.length = 368) : Completes i s := by
  refine completes_of_exec hcmd (status := statusOk) (values := packBits (finishFrame m17core bits)) ?_ fun hwf => ?_
  · rw [heffect]
    exact hexec
  · rw [packBits_length, length_finishFrame (hbits hwf)]
    decide

/-- Every operation faults or completes; it faults only when it is not legal. -/
theorem exec_cases (i : Instr) (s : State) : Concludes i s := by
  cases i with
  | nop => exact .inr (completes_of_exec rfl rfl fun _ => by simp)
  | reset => exact .inr (completes_of_exec rfl rfl fun _ => by simp)
  | status => exact .inr (completes_of_exec rfl rfl fun _ => by simp [statusWords])
  | setCfg polarityNeg diagEnable => exact .inr (completes_of_exec rfl rfl fun _ => by simp)
  | crcReset => exact .inr (completes_of_exec rfl rfl fun _ => by simp)
  | crcUpdate b => exact .inr (completes_of_exec rfl rfl fun _ => by simp)
  | crcUpdaten bytes =>
    exact concludes_of_wellFormed _ _ rfl fun hwf hexec => .inr (completes_of_exec rfl hexec fun _ => by simp)
  | crcFinal => exact .inr (completes_of_exec rfl rfl fun _ => by simp)
  | crcBytes => exact .inr (completes_of_exec rfl rfl fun _ => by simp [crcByteList])
  | golayEnc d => exact .inr (completes_of_exec rfl rfl fun _ => by simp)
  | golayDec w =>
    have hexec : exec (.golayDec w) s = .next (golayResponse (golayDec24 w) s) := rfl
    cases hdec : golayDec24 w <;> rw [hdec] at hexec <;>
      exact .inr (completes_of_exec rfl hexec fun _ => by simp)
  | convEnc x => exact concludes_convEnc x s
  | puncture mask nOut x => exact concludes_puncture mask nOut x s
  | depuncture mask nOut y => exact concludes_depuncture mask nOut y s
  | llrMap x => exact concludes_llrMap x s
  | vitDecode nOut l => exact concludes_vitDecode nOut l s
  | interleave x => exact concludes_interleave x s
  | deinterleave x => exact concludes_deinterleave x s
  | randomize x =>
    refine .inr (completes_of_exec rfl rfl fun hwf => ?_)
    have hx : x.length = 368 := eq_of_beq hwf
    rw [packBits_length, length_randomize (hx.trans randSeq_bits.symm).le, hx]
    decide
  | derandomize l => exact concludes_derandomize l s
  | corSample x => exact concludes_of_sample (x := x) rfl rfl rfl rfl (by simp)
  | corCorrelate w => exact .inr (completes_of_exec rfl rfl fun _ => by simp)
  | syncTriggered w => exact .inr (completes_of_exec rfl rfl fun _ => by simp)
  | syncStep w => exact .inr (completes_of_exec rfl rfl fun _ => by simp)
  | syncUpdated w => exact .inr (completes_of_exec rfl rfl fun _ => by simp)
  | dcdSample x => exact concludes_of_sample (x := x) rfl rfl rfl rfl (by simp)
  | dcdUpdate => exact .inr (completes_of_exec rfl rfl fun _ => by simp)
  | clkSample x => exact concludes_of_sample (x := x) rfl rfl rfl rfl (by simp)
  | clkUpdate => exact .inr (completes_of_exec rfl rfl fun _ => by simp)
  | clkReset => exact .inr (completes_of_exec rfl rfl fun _ => by simp)
  | frmPush a b => exact concludes_frmPush a b s
  | frmReset => exact .inr (completes_of_exec rfl rfl fun _ => by simp)
  | fdDecode accept sync f => exact concludes_fdDecode accept sync f s
  | fdReset => exact .inr (completes_of_exec rfl rfl fun _ => by simp)
  | demSample accept x => exact concludes_of_sample (x := x) rfl rfl rfl rfl (by simp)
  | encLsf bytes => exact .inr (completes_of_frame rfl rfl rfl fun hwf => length_lsfCoded (eq_of_beq hwf))
  | encLich n bytes => exact concludes_encLich n bytes s
  | encStream bytes =>
    refine .inr (completes_of_frame rfl rfl rfl fun hwf => ?_)
    have hlen : bytes.length = 30 := eq_of_beq hwf
    exact length_streamBits (by simp [hlen]) (by simp [hlen])
  | encPacket bytes => exact .inr (completes_of_frame rfl rfl rfl fun hwf => length_packetCoded (eq_of_beq hwf))
  | encBert bytes => exact .inr (completes_of_frame rfl rfl rfl fun hwf => length_bertCoded (eq_of_beq hwf))

end Sys2Proof.Machine

/-! SUPPORT. The streams (spec/20_memory.md rule R60; spec/30_encoding.md rules R80, R85; spec/60_exceptions.md rules R320,
R344; spec/70_reset_and_hazards.md rules R346, R356): what an operation and a step append, read and leave alone, and the
statements about it. -/

namespace Sys2Proof.Machine

open Sys2Proof

/-! ### What an operation's effect leaves alone -/

/-- From `s` to `t` only event records are appended and no input is read. -/
structure Streams (s t : State) : Prop where
  events : ∃ ws, IsEvents ws ∧ t.rsp = s.rsp ++ ws
  input : t.input = s.input
  cmdIndex : t.cmdIndex = s.cmdIndex

theorem Streams.of_eq {s t : State} (hrsp : t.rsp = s.rsp) (hinput : t.input = s.input) (hindex : t.cmdIndex = s.cmdIndex) :
    Streams s t :=
  ⟨⟨[], isEvents_nil, hrsp.trans (List.append_nil _).symm⟩, hinput, hindex⟩

theorem Emits.streams {s t : State} (h : Emits s t) : Streams s t :=
  ⟨h.events, h.input, h.cmdIndex⟩

theorem streams_applyFd (accept : Bool) (sync : SyncType) (f : List Llr) (s : State) :
    Streams s (applyFd (fdDecode m17core sync accept f s.fd s.vit) s) :=
  ⟨⟨_, isEvents_fdDecode sync accept f s.fd s.vit, rfl⟩, rfl, rfl⟩

theorem streams_effect (i : Instr) (s : State) : Streams s (effect i s) := by
  cases i with
  | syncStep w => exact .of_eq (setSyn_rsp _ _ _) (setSyn_input _ _ _) (setSyn_cmdIndex _ _ _)
  | syncUpdated w => exact .of_eq (setSyn_rsp _ _ _) (setSyn_input _ _ _) (setSyn_cmdIndex _ _ _)
  | fdDecode accept sync f => exact streams_applyFd accept sync _ s
  | demSample accept x => exact (emits_demSample accept _ s).streams
  | _ => exact .of_eq rfl rfl rfl

theorem effect_core {i : Instr} (hi : i ≠ .reset) (s : State) : (effect i s).core = s.core := by
  cases i with
  | reset => exact absurd rfl hi
  | syncStep w => exact setSyn_core _ _ _
  | syncUpdated w => exact setSyn_core _ _ _
  | demSample accept x => exact (emits_demSample accept _ s).core
  | _ => rfl

/-- Rule R356: such an operation writes at most the CRC register, the encoder and the Viterbi scratch. -/
theorem effect_of_sharesNothing {i : Instr} (h : operationSharesNothing i = true) (s : State) :
    ∃ crc mem vit, effect i s = { s with crc := crc, cnvMem := mem, vit := vit } := by
  cases i
  case reset | setCfg | corSample | corCorrelate | syncTriggered | syncStep | syncUpdated | dcdSample | dcdUpdate | clkSample
    | clkUpdate | clkReset | frmPush | frmReset | fdDecode | fdReset | demSample => cases h
  all_goals exact ⟨_, _, _, rfl⟩

/-! ### What an operation does to the streams -/

theorem exec_total (i : Instr) (s : State) : ∃ t, exec i s = .next t := by
  rcases exec_cases i s with ⟨-, c, w, hfault⟩ | ⟨status, values, hnext, -⟩
  · exact ⟨_, hfault⟩
  · exact ⟨_, hnext⟩

theorem exec_input {i : Instr} {s t : State} (h : exec i s = .next t) : t.input = s.input := by
  rcases exec_cases i s with ⟨-, c, w, hfault⟩ | ⟨status, values, hnext, -⟩
  · rw [← Host.Outcome.next.inj (hfault.symm.trans h)]
    rfl
  · rw [← Host.Outcome.next.inj (hnext.symm.trans h)]
    exact (streams_effect i s).input

/-- From `s` to `t` whole records are appended. -/
def Grows (s t : State) : Prop :=
  ∃ ws, IsRecords ws ∧ t.rsp = s.rsp ++ ws

theorem grows_of_eq {s t : State} (h : t.rsp = s.rsp) : Grows s t :=
  ⟨[], isEvents_nil.isRecords, h.trans (List.append_nil _).symm⟩

theorem grows_takeFault (c : FaultCause) (w : Word32) (s : State) : Grows s (takeFault c w s) :=
  ⟨_, isRecords_recordWords _ _ (by simp), rfl⟩

theorem grows_exec {i : Instr} (hwf : i.wellFormed = true) {s t : State} (h : exec i s = .next t) : Grows s t := by
  rcases exec_cases i s with ⟨-, c, w, hfault⟩ | ⟨status, values, hnext, hlen⟩
  · rw [← Host.Outcome.next.inj (hfault.symm.trans h)]
    exact grows_takeFault c w s
  · rw [← Host.Outcome.next.inj (hnext.symm.trans h)]
    obtain ⟨ws, hws, hrsp⟩ := (streams_effect i s).events
    refine ⟨ws ++ recordWords (opOf (commandWord i)) status values,
      hws.isRecords.append (isRecords_recordWords _ _ ((hlen hwf).trans_lt (by decide))), ?_⟩
    rw [respond_rsp, hrsp, List.append_assoc]

/-! ### What a step does to the streams -/

theorem wellFormed_of_decode {ws : List Word32} {i : Instr} {n : Nat} (h : decode ws = .instr i n) : i.wellFormed = true := by
  cases ws with
  | nil => rw [decode_nil] at h; cases h
  | cons w ws => exact (decodedInstructionKeepsCommandWord w ws i n h).1

/-- A core that is not halted always completes its command, and appends whole records. -/
theorem runCommand_grows (s : State) : ∃ t, runCommand m17core exec s = .next t ∧ Grows s t := by
  rcases runCommand_cases m17core exec s with ⟨i, n, hdecode, hrun⟩ | ⟨c, w, -, hrun⟩ | ⟨-, hrun⟩
  · obtain ⟨t, ht⟩ := exec_total i (s.consume n)
    exact ⟨t, hrun.trans ht, grows_exec (s := s.consume n) (wellFormed_of_decode hdecode) ht⟩
  · exact ⟨_, hrun, grows_takeFault c w (s.consume 1)⟩
  · rw [hrun, resetOr]
    split
    · exact ⟨_, rfl, grows_of_eq rfl⟩
    · exact ⟨_, rfl, grows_of_eq rfl⟩

/-- The two outcomes of an interrupted operation. -/
theorem runInterrupted_cases (k : Nat) (s : State) :
    (∃ rest, runInterrupted m17core exec k s = .next (s.hardReset m17core rest)) ∨
    ∃ t, runCommand m17core exec s = .next t ∧ runInterrupted m17core exec k s =
      .next (State.hardReset m17core t.input { s with rsp := s.rsp ++ eventsBeforeReset k (t.rsp.drop s.rsp.length) }) := by
  obtain ⟨t, hrun, -⟩ := runCommand_grows s
  cases hdecode : decode (pendingWords s.input) with
  | incomplete => exact .inl ⟨_, by simp only [runInterrupted, hdecode]; rfl⟩
  | instr i n => exact .inr ⟨t, hrun, by simp only [runInterrupted, hdecode, hrun]⟩
  | reject c w => exact .inr ⟨t, hrun, by simp only [runInterrupted, hdecode, hrun]⟩

theorem runInterrupted_grows (k : Nat) (s : State) : ∃ t, runInterrupted m17core exec k s = .next t ∧ Grows s t := by
  rcases runInterrupted_cases k s with ⟨rest, hrun⟩ | ⟨t, hcommand, hrun⟩
  · exact ⟨_, hrun, grows_of_eq rfl⟩
  · obtain ⟨u, hu, ws, hws, hrsp⟩ := runCommand_grows s
    cases Host.Outcome.next.inj (hu.symm.trans hcommand)
    refine ⟨_, hrun, _, hws.eventsBeforeReset k, ?_⟩
    rw [hardReset_rsp, hrsp, List.drop_left]

/-- A step halts, or appends whole records. -/
theorem step_grows (s : State) :
    (∃ t, step s = .next t ∧ Grows s t) ∨
      (step s = .fault .halted ∧ s.faulted = true ∧ afterHardReset s.input = none) := by
  rcases step_cases s with ⟨hf, hstep⟩ | ⟨-, k, rest, -, hstep⟩ | ⟨-, -, hstep⟩
  · rw [hstep, resetOr]
    cases hafter : afterHardReset s.input with
    | none => exact .inr ⟨rfl, hf, rfl⟩
    | some rest => exact .inl ⟨_, rfl, grows_of_eq rfl⟩
  · obtain ⟨t, hrun, hgrows⟩ := runInterrupted_grows k { s with input := rest }
    exact .inl ⟨t, hstep.trans hrun, hgrows⟩
  · obtain ⟨t, hrun, hgrows⟩ := runCommand_grows s
    exact .inl ⟨t, hstep.trans hrun, hgrows⟩

/-! ### The statements -/

/-- Settles O8: a legal operation completes (`exec_cases`), its effect appends event records only. -/
theorem legalCommandAnswersOnce : Obligations.LegalCommandAnswersOnce := by
  intro i s hwf hllrs hsample
  rcases exec_cases i s with ⟨hillegal, -⟩ | ⟨status, values, hnext, hlen⟩
  · exact absurd ⟨hwf, hllrs, hsample⟩ hillegal
  obtain ⟨⟨ws, ⟨events, hws, hevents⟩, hrsp⟩, hinput, hindex⟩ := streams_effect i s
  refine ⟨_, events, ⟨opOf (commandWord i), status, values⟩, hnext, ?_, hevents, rfl, hlen hwf, effect_core (s := s), ?_,
    hinput, hindex⟩
  · rw [respond_rsp, hrsp, hws]
    rfl
  · rintro rfl
    rfl

/-- Settles O11: the words decode to the operation (`decodeOfEncodeIsInstruction`), and of its records the last never stands. -/
theorem hardResetDuringOperationKeepsEvents : Obligations.HardResetDuringOperationKeepsEvents := by
  intro s u k i rest events answer hf hwf hin hexec hrsp hevents hanswer
  have hpending : pendingWords ((encode i).map HostInput.word ++ rest) = encode i ++ pendingWords rest := pendingWords_map_word _ _
  have hdecode := decodeOfEncodeIsInstruction i (pendingWords rest) hwf
  have hdrop : ((encode i).map HostInput.word ++ rest).drop (encode i).length = rest := List.drop_left' (List.length_map _)
  have hrun : runCommand m17core exec { s with input := (encode i).map HostInput.word ++ rest } = .next u := by
    simp only [runCommand, hpending, hdecode, State.consume, hdrop]
    exact hexec
  have hrecords : u.rsp.drop s.rsp.length = (events ++ [answer]).flatMap Record.words := by
    rw [hrsp, List.append_assoc, List.drop_left]
    simp
  have hsized : ∀ r ∈ events ++ [answer], r.Sized := by
    intro r hr
    rcases List.mem_append.1 hr with hr | hr
    · exact hevents r hr
    · rw [List.mem_singleton.1 hr]
      exact hanswer
  have hstep : step s = runInterrupted m17core exec k { s with input := (encode i).map HostInput.word ++ rest } := by
    rw [step, stepWith, hf, hin]
    rfl
  have hinterrupted : runInterrupted m17core exec k { s with input := (encode i).map HostInput.word ++ rest } =
      .next (State.hardReset m17core u.input { s with
        input := (encode i).map HostInput.word ++ rest
        rsp := s.rsp ++ eventsBeforeReset k (u.rsp.drop s.rsp.length) }) := by
    simp only [runInterrupted, hrun]
    simp only [hpending, hdecode]
  rw [hstep, hinterrupted, exec_input hexec, hrecords, eventsBeforeReset_flatMap hsized, List.dropLast_concat,
    hardReset_m17core]

/-- Settles O12. -/
theorem stepStopsOnlyWhenHalted : Obligations.StepStopsOnlyWhenHalted := by
  intro s
  rcases step_grows s with ⟨t, ht, -⟩ | ⟨hstep, hf, hafter⟩
  · exact .inl ⟨t, ht⟩
  · exact .inr ⟨hstep, of_decide_eq_true hf, hafter⟩

/-- Settles O13: whole records are a list of records (`wholeRecords_iff`), so they append. -/
theorem stepAppendsWholeRecords : Obligations.StepAppendsWholeRecords := by
  intro s t hstep
  rcases step_grows s with ⟨u, hu, ws, hws, hrsp⟩ | ⟨hhalt, -, -⟩
  · cases Host.Outcome.next.inj (hu.symm.trans hstep)
    rw [hrsp]
    exact ⟨List.prefix_append _ _, fun h => wholeRecords_iff.2 ((wholeRecords_iff.1 h).append hws)⟩
  · rw [hhalt] at hstep
    cases hstep

/-- Settles O20: a fault writes only the latch and the response stream, the effect only units DEM_SAMPLE does not use. -/
theorem safeOperationsLeaveDemodulatorState : Obligations.SafeOperationsLeaveDemodulatorState := by
  intro i s t hsafe hexec
  rcases exec_cases i s with ⟨-, c, w, hfault⟩ | ⟨status, values, hnext, -⟩
  · rw [← Host.Outcome.next.inj (hfault.symm.trans hexec)]
    exact ⟨rfl, rfl, rfl, rfl, rfl, rfl, rfl, rfl, rfl, rfl, rfl, rfl, rfl⟩
  · obtain ⟨crc, mem, vit, heffect⟩ := effect_of_sharesNothing hsafe s
    rw [← Host.Outcome.next.inj (hnext.symm.trans hexec), heffect]
    exact ⟨rfl, rfl, rfl, rfl, rfl, rfl, rfl, rfl, rfl, rfl, rfl, rfl, rfl⟩

end Sys2Proof.Machine

/-! SUPPORT. The invariant unit by unit (spec/48_demodulator.md rule R303; spec/47_framer_framedecoder.md rules R236, R263 (b);
spec/46_clock_recovery_estimators.md rules R221, R223; spec/45_correlator_sync_dcd.md rules R192, R193, R203, R209, R210;
spec/10_state.md rules R28, R33): each unit function keeps its unit's part. -/

namespace Sys2Proof.Machine

open Sys2Proof

/-! ### The Viterbi scratch -/

/-- The metrics and the history rows of a block have sixteen entries each. -/
theorem acsRun_shape {pm : List Nat} (hpm : pm.length = 16) (l : List Llr) :
    (acsRun pm l).1.length = 16 ∧ ∀ row ∈ (acsRun pm l).2, row.length = 16 := by
  match l with
  | [] => exact ⟨hpm, nofun⟩
  | [_] => exact ⟨hpm, nofun⟩
  | l0 :: l1 :: ls =>
    obtain ⟨hlast, hrows⟩ := acsRun_shape (pm := (acsStep pm l0 l1).1) (by simp [acsStep, vitStates]) ls
    rw [acsRun_cons]
    refine ⟨hlast, fun row hrow => ?_⟩
    rcases List.mem_cons.1 hrow with rfl | hrow
    · simp [acsStep, vitStates]
    · exact hrows row hrow

theorem Vit.shapeOk_iff {v : Vit} :
    v.shapeOk = true ↔ v.pm.length = 16 ∧ v.cm.length = 16 ∧ v.hist.length = 244 ∧ ∀ row ∈ v.hist, row.length = 16 := by
  simp only [Vit.shapeOk, Bool.and_eq_true, decide_eq_true_eq, List.all_eq_true, and_assoc]
  exact Iff.rfl

/-- A decode of at most 244 steps keeps the shape of the scratch (rule R33). -/
theorem shapeOk_after {v : Vit} (hv : v.shapeOk = true) {l : List Llr} {n : Nat} (hlen : l.length = 2 * n) (hn : n ≤ 244)
    (k : Nat) : (v.after (viterbi l k)).shapeOk = true := by
  rw [Vit.shapeOk_iff] at hv ⊢
  obtain ⟨-, hcm, hhist, hall⟩ := hv
  obtain ⟨hpm, hrows⟩ : (viterbi l k).pm.length = 16 ∧ ∀ row ∈ (viterbi l k).rows, row.length = 16 := acsRun_shape rfl l
  have hcount := length_viterbi_rows hlen k
  refine ⟨hpm, ?_, ?_, fun row hrow => ?_⟩
  · rw [Vit.after]
    split
    · exact hcm
    · exact hpm
  · simp only [Vit.after, List.length_append, List.length_drop, hhist, hcount]
    omega
  · rcases List.mem_append.1 hrow with hrow | hrow
    · exact hrows row hrow
    · exact hall row (List.drop_subset _ _ hrow)

/-! ### The frame decoder -/

theorem llrList_deinterleave {x : List Llr} (h : LlrList x) : LlrList (deinterleave 0 x) := by
  intro v hv
  obtain ⟨i, -, rfl⟩ := List.mem_map.1 hv
  by_cases hi : ilvIndex i < x.length
  · rw [List.getD_eq_getElem _ _ hi]
    exact h _ (List.getElem_mem hi)
  · rw [List.getD_eq_default _ _ (not_lt.1 hi)]
    decide

theorem llrList_derandomize (seq : List Byte) {x : List Llr} (h : LlrList x) : LlrList (derandomize seq x) := by
  intro v hv
  rw [derandomize, List.mem_iff_getElem] at hv
  obtain ⟨i, hi, rfl⟩ := hv
  rw [List.length_zipWith] at hi
  have hv := h (x[i]'(by omega)) (List.getElem_mem _)
  rw [List.getElem_zipWith]
  split
  · rwa [Int.natAbs_neg]
  · exact hv

theorem llrList_fdFrame (p : Params) {f : List Llr} (h : LlrList f) : LlrList (fdFrame p f) :=
  llrList_deinterleave (llrList_derandomize p.randSeq h)

/-- What one decode leaves for the invariant: a cost within bounds, and the scratch in shape. -/
structure FdOut.Bounded (o : FdOut) : Prop where
  cost : o.cost ≤ 976
  vit : o.vit.shapeOk = true

section
variable (p : Params) {x : List Llr} (hx : LlrList x) (fd : Fd) {vit : Vit} (hvit : vit.shapeOk = true)

include hx in
theorem cost_fdViterbi_le (m : MaskSel) {coded steps : Nat} (hcoded : coded = 2 * steps) (hsteps : steps ≤ 244) (data : Nat) :
    (fdViterbi p x m coded data).cost ≤ 976 :=
  viterbi_cost_le ((length_depuncture _ _ _).trans hcoded) (llrList_depuncture hx _ _) hsteps data

include hvit

theorem shapeOk_after_fdViterbi (x : List Llr) (m : MaskSel) {coded steps : Nat} (hcoded : coded = 2 * steps)
    (hsteps : steps ≤ 244) (data : Nat) : (vit.after (fdViterbi p x m coded data)).shapeOk = true :=
  shapeOk_after hvit ((length_depuncture _ _ _).trans hcoded) hsteps data

theorem bounded_fdLich (x : List Llr) : (fdLich x fd vit).Bounded := by
  cases hb : lichGolay x with
  | none => rw [fdLich_of_none x fd vit hb]; exact ⟨Nat.zero_le _, hvit⟩
  | some b =>
    by_cases hn : 5 < lichNumber b
    · rw [fdLich_of_badNumber fd vit hb hn]; exact ⟨Nat.zero_le _, hvit⟩
    by_cases hmask : fd.lichMask ||| (1#6 <<< lichNumber b) = 0x3F
    · by_cases hcrc : crc16 (storeFragment (lichNumber b) b fd.lsf).toList = 0
      · rw [fdLich_of_good fd vit hb hn hmask hcrc]; exact ⟨Nat.zero_le _, hvit⟩
      · rw [fdLich_of_bad fd vit hb hn hmask hcrc]; exact ⟨Nat.zero_le _, hvit⟩
    · rw [fdLich_of_incomplete fd vit hb hn hmask]; exact ⟨Nat.zero_le _, hvit⟩

include hx

theorem bounded_fdLsf : (fdLsf p x fd vit).Bounded := by
  have hcost := cost_fdViterbi_le p hx .p1 (steps := 244) rfl (le_refl _) 240
  have hafter := shapeOk_after_fdViterbi p hvit x .p1 (steps := 244) rfl (le_refl _) 240
  by_cases h : crc16 (lsfBytes p x) = 0
  · rw [fdLsf_of_good p x fd vit h]; exact ⟨hcost, hafter⟩
  · rw [fdLsf_of_bad p x fd vit h]; exact ⟨hcost, hafter⟩

theorem bounded_fdStream : (fdStream p x fd vit).Bounded := by
  have hcost := cost_fdViterbi_le p (fun v hv => hx v (List.drop_subset _ _ hv)) .p2 (x := x.drop 96) (steps := 148) rfl
    (by omega) 144
  have hafter := shapeOk_after_fdViterbi p hvit (x.drop 96) .p2 (steps := 148) rfl (by omega) 144
  rw [fdStream]
  split <;> exact ⟨hcost, hafter⟩

theorem bounded_fdPacket (t : FrameType) (acc : Bool) : (fdPacket p t acc x fd vit).Bounded := by
  have hcost := cost_fdViterbi_le p hx .p3 (steps := 210) rfl (by omega) 206
  have hafter := shapeOk_after_fdViterbi p hvit x .p3 (steps := 210) rfl (by omega) 206
  rw [fdPacket]
  split <;> exact ⟨hcost, hafter⟩

theorem bounded_fdBert : (fdBert p x fd vit).Bounded :=
  ⟨cost_fdViterbi_le p hx .p2 (steps := 201) rfl (by omega) 197,
    shapeOk_after_fdViterbi p hvit x .p2 (steps := 201) rfl (by omega) 197⟩

theorem bounded_fdDispatch (sync : SyncType) (acc : Bool) : (fdDispatch p sync acc x fd vit).Bounded := by
  unfold fdDispatch
  split
  · exact bounded_fdLsf p hx fd hvit
  · exact bounded_fdLich fd hvit x
  · exact bounded_fdStream p hx fd hvit
  · exact bounded_fdPacket p hx fd hvit _ _
  · exact bounded_fdPacket p hx fd hvit _ _
  · exact bounded_fdBert p hx fd hvit
  · exact ⟨Nat.zero_le _, hvit⟩
  · exact ⟨Nat.zero_le _, hvit⟩

end

theorem FdOut.Bounded.withCost {o : FdOut} (h : o.Bounded) : o.withCost.Bounded ∧ o.withCost.fd.cost ≤ 976 :=
  ⟨⟨h.cost, h.vit⟩, h.cost⟩

/-- Rules R240, R165: the decoder's cost register too. -/
theorem bounded_fdDecode {f : List Llr} (hf : LlrList f) (sync : SyncType) (acc : Bool) (fd : Fd) {vit : Vit}
    (hvit : vit.shapeOk = true) :
    (fdDecode m17core sync acc f fd vit).Bounded ∧ (fdDecode m17core sync acc f fd vit).fd.cost ≤ 976 := by
  rw [fdDecode_eq]
  exact (bounded_fdDispatch m17core (llrList_fdFrame m17core hf) fd hvit sync acc).withCost

/-! ### The correlator and the detectors -/

theorem Cor.ok_iff {c : Cor} :
    c.ok = true ↔ (c.pos = ring (c.prevPos.val + 1) ∨ c.pos = 0 ∧ c.prevPos = 0) ∧ 0 ≤ c.limit ∧ c.lpf = c.limit := by
  simp [Cor.ok, and_assoc]

theorem limitOnePole_nonneg {state x : RealVal} (h : 0 ≤ state) : 0 ≤ (limitOnePole state (|x|)).2 := by
  have hx := abs_nonneg x
  have heq : (limitOnePole state (|x|)).2 = state * (127 / 128) + |x| / 128 := by
    change state + (|x| - state) / 128 = _
    ring
  rw [heq]
  positivity

theorem corSample_ok {c : Cor} (h : c.ok = true) (x : RealVal) : (corSample m17core x c).ok = true := by
  rw [Cor.ok_iff] at h ⊢
  obtain ⟨-, hlimit, hlpf⟩ := h
  exact ⟨.inl rfl, limitOnePole_nonneg (hlpf.symm ▸ hlimit), rfl⟩

theorem Syn.ok_iff {y : Syn} : y.ok = true ↔ (y.triggered = true → ∃ v ∈ y.samples.toList, v ≠ 0) := by
  cases h : y.triggered <;> simp [Syn.ok, h, Vector.any_eq_true']

theorem synStep_ok (c : Cor) (w : SynSel) {y : Syn} (h : y.ok = true) : (synStep m17core c w y).ok = true := by
  rcases synStep_cases m17core c w y with ⟨hvalue, heq⟩ | ⟨-, -, heq⟩ | ⟨-, -, heq⟩ <;> rw [heq]
  · refine Syn.ok_iff.2 fun _ => ⟨synTriggered m17core c w, ?_, hvalue⟩
    exact Vector.mem_toList_iff.2 (Vector.mem_set (corIndex c).isLt)
  · exact Syn.ok_iff.2 nofun
  · exact h

theorem synClear_ok {y : Syn} (h : y.ok = true) : (synClear y).ok = true := h

/-! ### The carrier detector -/

theorem Sdft.ok_iff {n : Nat} {b : Sdft} : b.ok n = true ↔ b.delay.length = n ∧ b.j < n := by
  simp [Sdft.ok]

theorem sdftStep_ok {n : Nat} {b : Sdft} (h : b.ok n = true) (w : RealVal × RealVal) (x : RealVal) :
    (sdftStep w x b).ok n = true := by
  rw [Sdft.ok_iff] at h ⊢
  obtain ⟨hlen, hj⟩ := h
  refine ⟨(List.length_set).trans hlen, ?_⟩
  change (b.j + 1) % b.delay.length < n
  rw [hlen]
  exact Nat.mod_lt _ (Nat.zero_lt_of_lt hj)

theorem Dcd.ok_iff {d : Dcd} :
    d.ok m17core = true ↔ d.sdftIn.ok 96 = true ∧ d.sdftOut.ok 96 = true ∧ 0 ≤ d.accIn ∧ 0 ≤ d.accOut ∧ 0 ≤ d.level := by
  have hn : m17core.dcdN = 96 := rfl
  simp [Dcd.ok, and_assoc, hn]

theorem sdftPower_nonneg (b : Sdft) : 0 ≤ sdftPower b :=
  add_nonneg (mul_self_nonneg b.re) (mul_self_nonneg b.im)

theorem dcdSample_ok {d : Dcd} (h : d.ok m17core = true) (x : RealVal) : (dcdSample m17core x d).ok m17core = true := by
  rw [Dcd.ok_iff] at h ⊢
  obtain ⟨hin, hout, haccIn, haccOut, hlevel⟩ := h
  exact ⟨sdftStep_ok hin _ _, sdftStep_ok hout _ _, add_nonneg haccIn (sdftPower_nonneg _),
    add_nonneg haccOut (sdftPower_nonneg _), hlevel⟩

theorem dcdLevel_nonneg {d : Dcd} (hin : 0 ≤ d.accIn) (hout : 0 ≤ d.accOut) (hlevel : 0 ≤ d.level) : 0 ≤ dcdLevel d := by
  have hratio : 0 ≤ dcdRatio d := by
    rw [dcdRatio]
    split
    · exact le_refl _
    · exact div_nonneg hin hout
  exact add_nonneg (mul_nonneg (by norm_num [Config.DCD_EMA_OLD]) hlevel) (mul_nonneg (by norm_num [Config.DCD_EMA_NEW]) hratio)

theorem dcdUpdate_ok {d : Dcd} (h : d.ok m17core = true) : (dcdUpdate m17core d).ok m17core = true := by
  rw [Dcd.ok_iff] at h ⊢
  obtain ⟨hin, hout, haccIn, haccOut, hlevel⟩ := h
  exact ⟨hin, hout, le_refl _, le_refl _, dcdLevel_nonneg haccIn haccOut hlevel⟩

/-! ### Clock recovery -/

theorem Clk.ok_iff {c : Clk} :
    c.ok = true ↔ 1 - Config.CLK_MAX_DRIFT ≤ c.clock ∧ c.clock ≤ 1 + Config.CLK_MAX_DRIFT ∧
      c.sampleIndex = c.prevSampleIndex ∧
      (c.seeded = false → c.offsetTotal = 0 ∧ c.sampleCount = 0 ∧ c.clock = 1) := by
  cases h : c.seeded <;> simp [Clk.ok, and_assoc, h]

theorem clkSample_ok {c : Clk} (h : c.ok = true) (x : RealVal) : (clkSample x c).ok = true := by
  rw [Clk.ok_iff] at h
  obtain ⟨hlow, hhigh, hindex, hcount⟩ := h
  rw [clkSample_eq, Clk.ok_iff]
  refine ⟨hlow, hhigh, hindex, fun hseeded => ?_⟩
  replace hseeded : c.seeded = false := hseeded
  obtain ⟨htotal, hzero, hclock⟩ := hcount hseeded
  exact ⟨htotal, by simp [hzero, hseeded], hclock⟩

/-- Rule R223. -/
theorem clkEstimate_bounds (total : RealVal) (n : Nat) :
    1 - Config.CLK_MAX_DRIFT ≤ clkEstimate total n ∧ clkEstimate total n ≤ 1 + Config.CLK_MAX_DRIFT :=
  ⟨le_min (by norm_num [Config.CLK_MAX_DRIFT]) (le_max_left _ _), min_le_left _ _⟩

theorem clkUpdate_ok {c : Clk} (h : c.ok = true) : (clkUpdate c).ok = true := by
  rw [Clk.ok_iff] at h
  obtain ⟨hlow, hhigh, hindex, hcount⟩ := h
  cases hseeded : c.seeded with
  | false =>
    rw [clkUpdate_of_not_seeded hseeded, Clk.ok_iff]
    exact ⟨hlow, hhigh, rfl, nofun⟩
  | true =>
    rw [clkUpdate_of_seeded hseeded, Clk.ok_iff]
    refine ⟨?_, ?_, rfl, fun hno => absurd (hseeded.symm.trans hno) (by decide)⟩
    · change _ ≤ ite _ _ _
      split
      · exact (clkEstimate_bounds _ _).1
      · exact hlow
    · change ite _ _ _ ≤ _
      split
      · exact (clkEstimate_bounds _ _).2
      · exact hhigh

/-! ### The framer -/

theorem Frm.ok_iff {f : Frm} : f.ok = true ↔ f.count % 2 = 0 ∧ f.count < 368 ∧ LlrList f.buf.toList := by
  simp only [Frm.ok, Bool.and_eq_true, decide_eq_true_eq, List.all_eq_true, and_assoc]
  exact Iff.rfl

theorem llrList_frmStore {f : Frm} (h : LlrList f.buf.toList) {a b : Llr} (ha : a.natAbs ≤ 7) (hb : b.natAbs ≤ 7) :
    LlrList (frmStore a b f).toList := by
  have hstore {xs : Vector Llr 368} (hxs : LlrList xs.toList) {v : Llr} (hv : v.natAbs ≤ 7) (i : Nat) :
      LlrList (xs.setIfInBounds i v).toList := by
    intro w hw
    rw [Vector.toList_setIfInBounds] at hw
    rcases List.mem_or_eq_of_mem_set hw with hw | rfl
    · exact hxs w hw
    · exact hv
  exact hstore (hstore h ha _) hb _

theorem frmStore_ok {f : Frm} (h : f.ok = true) {a b : Llr} (ha : a.natAbs ≤ 7) (hb : b.natAbs ≤ 7) {n : Nat}
    (heven : n % 2 = 0) (hlt : n < 368) : Frm.ok { buf := frmStore a b f, count := n } = true := by
  obtain ⟨-, -, hbuf⟩ := Frm.ok_iff.1 h
  exact Frm.ok_iff.2 ⟨heven, hlt, llrList_frmStore hbuf ha hb⟩

/-- The count after a push that leaves room for another. -/
theorem frmCount_add_two {f : Frm} (h : f.ok = true) (hmore : f.count + 2 ≠ 368) :
    (f.count + 2) % 2 = 0 ∧ f.count + 2 < 368 := by
  obtain ⟨heven, hlt, -⟩ := Frm.ok_iff.1 h
  omega

theorem frmPush_ok {f : Frm} (h : f.ok = true) {a b : Llr} (ha : a.natAbs ≤ 7) (hb : b.natAbs ≤ 7) :
    (frmPush a b f).1.ok = true := by
  rcases frmPush_cases a b f with ⟨-, heq⟩ | ⟨hmore, heq⟩ <;> rw [heq]
  · exact frmStore_ok h ha hb rfl (by decide)
  · obtain ⟨heven, hlt⟩ := frmCount_add_two h hmore
    exact frmStore_ok h ha hb heven hlt

theorem frmReset_ok {f : Frm} (h : f.ok = true) : (frmReset f).ok = true := by
  obtain ⟨-, -, hbuf⟩ := Frm.ok_iff.1 h
  exact Frm.ok_iff.2 ⟨rfl, Nat.succ_pos 367, hbuf⟩

/-! ### The demodulator -/

/-- Rule R303, clause by clause. -/
structure Dem.Bounds (d : Dem) : Prop where
  search : d.missingSyncCount ≤ 1920
  misses : d.state ≠ .unlocked → d.missingSyncCount < 192
  syncCount : d.syncCount ≤ 88
  window : isResync d.state = true → d.syncCount ≤ 87
  costCount : d.costCount ≤ 75
  viterbiCost : d.viterbiCost ≤ 976
  pollCount : d.pollCount < 960
  diagCount : d.diagCount < 960
  mf : d.mf.length = 1

theorem Dem.ok_iff {d : Dem} : d.ok m17core = true ↔ d.Bounds := by
  simp only [Dem.ok, Bool.and_eq_true, Bool.or_eq_true, Bool.not_eq_true', decide_eq_true_eq]
  constructor
  · rintro ⟨⟨⟨⟨⟨⟨⟨⟨hsearch, hmisses⟩, hsync⟩, hwindow⟩, hcost⟩, hviterbi⟩, hpoll⟩, hdiag⟩, hmf⟩
    exact ⟨hsearch, hmisses.resolve_left, hsync, fun h => hwindow.resolve_left (by rw [h]; decide), hcost, hviterbi, hpoll,
      hdiag, hmf⟩
  · rintro ⟨hsearch, hmisses, hsync, hwindow, hcost, hviterbi, hpoll, hdiag, hmf⟩
    exact ⟨⟨⟨⟨⟨⟨⟨⟨hsearch, or_iff_not_imp_left.2 hmisses⟩, hsync⟩,
      or_iff_not_imp_left.2 fun h => hwindow (eq_true_of_ne_false h)⟩, hcost⟩, hviterbi⟩, hpoll⟩, hdiag⟩, hmf⟩

end Sys2Proof.Machine

/-! SUPPORT. The invariant of the state (spec/48_demodulator.md rule R303): the reset state, one sample of the demodulator step by
step, every operation and every step of the core keep it, and the statement about it. -/

namespace Sys2Proof.Machine

open Sys2Proof

/-! ### The registers and the streams -/

section
variable {s : State} (h : s.Inv)
include h

theorem State.Inv.dem_bounds : s.dem.Bounds :=
  Dem.ok_iff.1 h.demodulator

theorem inv_append (ws : List Word32) : (append ws s).Inv :=
  { h with }

theorem inv_respond (op status : BitVec 8) (values : List Word32) : (respond op status values s).Inv :=
  inv_append h _

theorem inv_takeFault (c : FaultCause) (w : Word32) : (takeFault c w s).Inv :=
  { h with latch := by cases c <;> rfl }

theorem inv_consume (n : Nat) : (s.consume n).Inv :=
  { h with }

theorem inv_withDem {d : Dem} (hd : d.Bounds) : State.Inv { s with dem := d } :=
  { h with demodulator := Dem.ok_iff.2 hd }

theorem inv_diagEmit : (diagEmit s).Inv := by
  rw [diagEmit_eq]
  exact inv_append h _

theorem inv_setSyn (w : SynSel) {y : Syn} (hy : y.ok = true) : (s.setSyn w y).Inv := by
  have hdetectors : ∀ v, ((s.setSyn w y).syn v).ok = true := by
    intro v
    by_cases hv : v = w
    · rw [hv, syn_setSyn]
      exact hy
    · rw [syn_setSyn_of_ne hv]
      exact h.detectors v
  cases w <;> exact { h with detectors := hdetectors }

end

theorem inv_reset (input : List HostInput) (index : Nat) (rsp : List Word32) :
    State.Inv { State.reset with input := input, cmdIndex := index, rsp := rsp } :=
  { resetHasInvariant with }

/-- A hard reset that a core waits for. -/
theorem inv_resetOr {s : State} {otherwise : Result} {t : State} (hother : otherwise = .next t → t.Inv)
    (hstep : resetOr m17core otherwise s = .next t) : t.Inv := by
  rw [resetOr] at hstep
  split at hstep
  · rw [← Host.Outcome.next.inj hstep]
    exact inv_reset _ _ _
  · exact hother hstep

theorem vitCounts {n k : Nat} (hwf : vitCountsOk n k = true) : n % 2 = 0 ∧ n ≤ 488 := by
  simp only [vitCountsOk, Bool.and_eq_true, decide_eq_true_eq, beq_iff_eq] at hwf
  obtain ⟨⟨⟨-, heven⟩, hmax⟩, -⟩ := hwf
  exact ⟨heven, hmax⟩

/-! ### The handlers of the demodulator -/

theorem fdReset_cost (fd : Fd) : (fdReset fd).cost ≤ 976 := Nat.zero_le _

/-- A detection leaves the counters empty. -/
theorem Dem.Bounds.found {d : Dem} (hd : d.Bounds) (i : Fin 10) (next : DemodState) (tag : SyncType) :
    (foundDem i next tag d).Bounds :=
  { hd with
    search := Nat.zero_le _, misses := fun _ => Nat.succ_pos 191, syncCount := Nat.zero_le _, window := fun _ => Nat.zero_le _ }

section
variable {s : State} (h : s.Inv)
include h

theorem inv_stepAndRead (w : SynSel) : (stepAndRead m17core w s).Inv :=
  inv_setSyn h w (synClear_ok (synStep_ok s.cor w (h.detectors w)))

theorem inv_found (i : Fin 10) (next : DemodState) (tag : SyncType) {d : Dem} (hd : d.Bounds) :
    State.Inv { s with dev := devReset m17core, dem := foundDem i next tag d } :=
  { inv_withDem h (hd.found i next tag) with estimators := rfl }

theorem inv_searchPreamble (hstate : s.dem.state = .unlocked) (hsearch : s.dem.missingSyncCount < 1920) :
    (searchPreamble m17core s).Inv := by
  have hd := h.dem_bounds
  rcases searchPreamble_cases s with ⟨-, heq⟩ | ⟨-, heq⟩ <;> rw [heq]
  · exact inv_withDem (inv_stepAndRead h .preamble) { hd with search := hsearch, misses := fun hne => absurd hstate hne }
  · exact inv_found (inv_stepAndRead h .preamble) _ _ _ hd

theorem inv_searchFallback : (searchFallback m17core s).Inv := by
  have hd := h.dem_bounds
  have hread : (fallbackRead s).Inv := inv_stepAndRead (inv_stepAndRead h .lsf) .packet
  rcases searchFallback_cases s with ⟨-, heq⟩ | ⟨-, -, heq⟩ | ⟨-, -, heq⟩ | ⟨-, -, heq⟩ <;> rw [heq]
  · exact inv_found hread _ _ _ hd
  · exact inv_found hread _ _ _ hd
  · exact inv_found hread _ _ _ hd
  · exact hread

theorem inv_hit (tag : SyncType) : (hit m17core tag s).Inv := by
  rw [hit_eq]
  exact inv_withDem h { h.dem_bounds with search := Nat.zero_le _, misses := fun _ => Nat.succ_pos 191, window := nofun }

theorem inv_handleLsfSync : (handleLsfSync m17core s).Inv := by
  have hd := h.dem_bounds
  rcases handleLsfSync_cases s with ⟨-, heq⟩ | ⟨-, ⟨-, heq⟩ | ⟨-, -, heq⟩ | ⟨-, -, hlt, heq⟩ | ⟨-, -, -, heq⟩⟩ <;> rw [heq]
  · exact h
  · exact inv_hit h _
  · exact inv_hit h _
  · exact inv_withDem h { hd with search := by change s.dem.missingSyncCount + 1 ≤ 1920; omega, misses := fun _ => hlt }
  · exact { inv_withDem h (d := { s.dem with state := .unlocked, missingSyncCount := 0 })
        { hd with search := Nat.zero_le _, misses := fun _ => Nat.succ_pos 191, window := nofun } with
      decoder := fdReset_cost s.fd }

theorem inv_handleResync (w : SynSel) (sign : SyncSign) (tag : SyncType) {fallback : DemodState}
    (hstate : isResync s.dem.state = true) (hfallback : isResync fallback = false) :
    (handleResync m17core w sign tag fallback s).Inv := by
  have hd := h.dem_bounds
  have hread := inv_stepAndRead h w
  have hsync : s.dem.syncCount + 1 ≤ 88 := Nat.succ_le_succ (hd.window hstate)
  rcases handleResync_cases w sign tag fallback s with ⟨-, -, heq⟩ | ⟨-, hmin, heq⟩ | ⟨-, -, hmisses, heq⟩ | ⟨-, -, -, heq⟩ |
    ⟨-, hmax, heq⟩ <;> rw [heq]
  · exact inv_withDem hread { hd with
      search := Nat.zero_le _, misses := fun _ => Nat.succ_pos 191, syncCount := hsync, window := nofun }
  · exact inv_withDem hread { hd with
      search := Nat.zero_le _, misses := fun _ => Nat.succ_pos 191, syncCount := hsync
      window := fun _ => (not_lt.1 hmin).trans (by omega) }
  · exact inv_withDem hread { hd with
      search := by change s.dem.missingSyncCount + 1 ≤ 1920; omega
      misses := fun _ => by change s.dem.missingSyncCount + 1 < 192; omega
      syncCount := hsync, window := nofun }
  · have hdem : Dem.Bounds { s.dem with syncCount := s.dem.syncCount + 1, missingSyncCount := 0, state := fallback } :=
      { hd with
        search := Nat.zero_le _, misses := fun _ => Nat.succ_pos 191, syncCount := hsync
        window := fun hresync => absurd (hfallback.symm.trans hresync) (by decide) }
    refine { inv_withDem hread hdem with decoder := ?_ }
    change (if fallback = .unlocked then fdReset s.fd else s.fd).cost ≤ 976
    split
    · exact fdReset_cost s.fd
    · exact h.decoder
  · exact inv_withDem hread { hd with syncCount := hsync, window := fun _ => not_lt.1 hmax }

theorem inv_frameDone (hstate : s.dem.state = .frame) {frame : List Llr} (hframe : LlrList frame) (acc : Bool) :
    (frameDone m17core frame acc s).Inv := by
  have hd := h.dem_bounds
  have hmisses := hd.misses (by rw [hstate]; decide)
  obtain ⟨hbounded, hcost⟩ := bounded_fdDecode hframe s.dem.syncWordType acc s.fd h.scratch
  obtain ⟨o, ho⟩ : ∃ o, fdDecode m17core s.dem.syncWordType acc frame s.fd s.vit = o := ⟨_, rfl⟩
  rw [ho] at hbounded hcost
  by_cases hlimit : 75 < strike o.cost s.dem.costCount
  · rw [frameDone_of_lt ho rfl hlimit]
    exact { h with
      scratch := hbounded.vit
      decoder := fdReset_cost o.fd
      demodulator := Dem.ok_iff.2 { hd with
        search := Nat.zero_le _, misses := fun _ => Nat.succ_pos 191, syncCount := Nat.zero_le _
        window := fun _ => Nat.zero_le _, costCount := Nat.zero_le _, viterbiCost := hbounded.cost } }
  · rw [frameDone_of_not_lt ho rfl rfl hlimit]
    exact { h with
      scratch := hbounded.vit
      decoder := hcost
      demodulator := Dem.ok_iff.2 { hd with
        misses := fun _ => hmisses, syncCount := Nat.zero_le _, window := fun _ => Nat.zero_le _
        costCount := not_lt.1 hlimit, viterbiCost := hbounded.cost } }

theorem inv_handleFrame (hstate : s.dem.state = .frame) (y : RealVal) (acc : Bool) : (handleFrame m17core y acc s).Inv := by
  obtain ⟨ha, hb⟩ := natAbs_llrMap (softSymbol s y)
  by_cases hphase : corIndex s.cor = s.dem.sampleIndex
  · by_cases hlast : s.frm.count + 2 = 368
    · rw [handleFrame_of_eq hphase rfl hlast]
      obtain ⟨-, -, hbuf⟩ := Frm.ok_iff.1 h.framer
      have hpushed (buf : Vector Llr 368) (hok : Frm.ok { buf := buf, count := 0 } = true) :
          State.Inv { s with frm := { buf := buf, count := 0 } } :=
        { h with framer := hok }
      exact inv_frameDone (hpushed _ (frmStore_ok h.framer ha hb rfl (by decide))) hstate (llrList_frmStore hbuf ha hb) acc
    · rw [handleFrame_of_ne hphase rfl hlast]
      obtain ⟨heven, hlt⟩ := frmCount_add_two h.framer hlast
      exact { h with framer := frmStore_ok h.framer ha hb heven hlt }
  · rw [handleFrame_of_otherPhase hphase]
    exact h

theorem inv_demHandler (y : RealVal) (acc : Bool) : (demHandler m17core y acc s).Inv := by
  cases hstate : s.dem.state with
  | unlocked =>
    rw [demHandler_of_unlocked hstate]
    split
    · exact inv_searchPreamble h hstate ‹_›
    · exact inv_searchFallback h
  | lsfSync => rw [demHandler_of_lsfSync hstate]; exact inv_handleLsfSync h
  | streamSync => rw [demHandler, hstate]; exact inv_handleResync h _ _ _ (by rw [hstate]; rfl) rfl
  | packetSync => rw [demHandler, hstate]; exact inv_handleResync h _ _ _ (by rw [hstate]; rfl) rfl
  | bertSync => rw [demHandler, hstate]; exact inv_handleResync h _ _ _ (by rw [hstate]; rfl) rfl
  | frame => rw [demHandler_of_frame hstate]; exact inv_handleFrame h hstate y acc

/-! ### One sample -/

theorem inv_clockHousekeeping : (clockHousekeeping s).Inv := by
  have hd := h.dem_bounds
  rcases clockHousekeeping_cases s with ⟨-, heq⟩ | ⟨-, -, heq⟩ | ⟨-, -, heq⟩ <;> rw [heq]
  · exact { inv_withDem h (d := { s.dem with needClockReset := false }) { hd with } with
      clock := resetHasInvariant.clock }
  · exact { inv_withDem h (d := { s.dem with
        needClockUpdate := false
        sampleIndex := reconcile (clkUpdate s.clk).sampleIndex s.dem.syncSampleIndex s.dem.sampleIndex }) { hd with } with
      clock := clkUpdate_ok h.clock }
  · exact h

theorem inv_demPrepared (r : RealVal) : (demPrepared r s).Inv := by
  have hheard : (demHeard r s).Inv :=
    { inv_withDem h (d := { s.dem with mf := [r] }) { h.dem_bounds with mf := rfl } with
      carrier := dcdSample_ok h.carrier r, correlator := corSample_ok h.correlator r }
  have hkept : (demKept r s).Inv := by
    rw [demKept]
    split
    · exact inv_clockHousekeeping hheard
    · exact hheard
  exact { hkept with clock := clkSample_ok hkept.clock r }

theorem inv_dcdPoll : (dcdPoll m17core s).Inv := by
  have hd := h.dem_bounds
  rcases dcdPoll_cases s with ⟨hmore, heq⟩ | ⟨-, ⟨-, -, heq⟩ | ⟨-, -, heq⟩ | ⟨-, heq⟩⟩ <;> rw [heq]
  · have hlt := hd.pollCount
    exact inv_withDem h { hd with pollCount := by change s.dem.pollCount + 1 < 960; omega }
  · exact inv_diagEmit { h with
      carrier := dcdUpdate_ok h.carrier
      estimators := rfl
      framer := frmReset_ok h.framer
      decoder := fdReset_cost s.fd
      demodulator := Dem.ok_iff.2 { hd with
        search := Nat.zero_le _, misses := fun _ => Nat.succ_pos 191, syncCount := Nat.zero_le _
        window := fun _ => Nat.zero_le _, costCount := Nat.zero_le _, pollCount := Nat.succ_pos 959 } }
  · exact inv_diagEmit { h with
      carrier := dcdUpdate_ok h.carrier
      decoder := fdReset_cost s.fd
      demodulator := Dem.ok_iff.2 { hd with
        search := Nat.zero_le _, misses := fun _ => Nat.succ_pos 191, window := nofun, costCount := Nat.zero_le _
        pollCount := Nat.succ_pos 959 } }
  · exact { inv_withDem h (d := { s.dem with pollCount := 0 }) { hd with pollCount := Nat.succ_pos 959 } with
      carrier := dcdUpdate_ok h.carrier }

theorem inv_diagTick : (diagTick m17core s).Inv := by
  rw [diagTick_eq h.dem_bounds.diagCount]
  exact inv_append (inv_withDem h (d := (ticked s).dem) { h.dem_bounds with diagCount := Nat.mod_lt _ (Nat.succ_pos 959) }) _

theorem inv_demSample (acc : Bool) (r : RealVal) : (demSample m17core acc r s).Inv := by
  rw [demSample_eq]
  exact inv_diagTick (inv_dcdPoll (inv_demHandler (inv_demPrepared h r) r acc))

/-! ### Every operation -/

theorem inv_applyFd {f : List Llr} (hf : LlrList f) (sync : SyncType) (acc : Bool) :
    (applyFd (fdDecode m17core sync acc f s.fd s.vit) s).Inv := by
  obtain ⟨hbounded, hcost⟩ := bounded_fdDecode hf sync acc s.fd h.scratch
  obtain ⟨o, ho⟩ : ∃ o, fdDecode m17core sync acc f s.fd s.vit = o := ⟨_, rfl⟩
  rw [ho] at hbounded hcost ⊢
  exact { h with scratch := hbounded.vit, decoder := hcost }

theorem inv_effect {i : Instr} (hlegal : Legal i) : (effect i s).Inv := by
  cases i with
  | reset => exact inv_reset s.input s.cmdIndex s.rsp
  | setCfg polarityNeg diagEnable => exact { h with }
  | crcReset => exact { h with }
  | crcUpdate b => exact { h with }
  | crcUpdaten bytes => exact { h with }
  | convEnc x => exact { h with encoder := convBlock_memory x }
  | vitDecode nOut l =>
    obtain ⟨heven, hmax⟩ := vitCounts hlegal.wellFormed
    have hlen : (l.map fun b => b.toInt).length = 2 * (l.length / 2) := by rw [List.length_map]; omega
    exact { h with scratch := shapeOk_after h.scratch hlen (by omega) nOut.toNat }
  | corSample x => exact { h with correlator := corSample_ok h.correlator _ }
  | syncStep w => exact inv_setSyn h w (synStep_ok s.cor w (h.detectors w))
  | syncUpdated w => exact inv_setSyn h w (synClear_ok (h.detectors w))
  | dcdSample x => exact { h with carrier := dcdSample_ok h.carrier _ }
  | dcdUpdate => exact { h with carrier := dcdUpdate_ok h.carrier }
  | clkSample x => exact { h with clock := clkSample_ok h.clock _ }
  | clkUpdate => exact { h with clock := clkUpdate_ok h.clock }
  | clkReset => exact { h with clock := resetHasInvariant.clock }
  | frmPush a b =>
    have hllrs := llrList_map_toInt hlegal.llrs
    exact { h with
      framer := frmPush_ok h.framer (hllrs a.toInt (by simp [llrOperand])) (hllrs b.toInt (by simp [llrOperand])) }
  | frmReset => exact { h with framer := frmReset_ok h.framer }
  | fdDecode accept sync f => exact inv_applyFd h (llrList_map_toInt hlegal.llrs) sync accept
  | fdReset => exact { h with decoder := fdReset_cost s.fd }
  | demSample accept x => exact inv_demSample h accept _
  | encLsf bytes => exact { h with encoder := rfl }
  | encStream bytes => exact { h with encoder := rfl }
  | encPacket bytes => exact { h with encoder := rfl }
  | encBert bytes => exact { h with encoder := rfl }
  | _ => exact h

/-- A well-formed operation that is not legal has a bad operand, and faults. -/
theorem inv_exec {i : Instr} (hwf : i.wellFormed = true) {t : State} (hexec : exec i s = .next t) : t.Inv := by
  by_cases hlegal : Legal i
  · rcases exec_cases i s with ⟨hillegal, -⟩ | ⟨status, values, hnext, -⟩
    · exact absurd hlegal hillegal
    · rw [← Host.Outcome.next.inj (hnext.symm.trans hexec)]
      exact inv_respond (inv_effect h hlegal) _ _ _
  · have hfault : exec i s = .next (takeFault .badOperand (commandWord i) s) := by
      by_cases hllrs : ∃ b ∈ llrOperand i, ¬ inLlrRange b
      · exact exec_of_badLlr hwf hllrs s
      by_cases hsample : ∃ x ∈ sampleOperand i, notFinite x
      · obtain ⟨x, hmem, hx⟩ := hsample
        exact exec_of_notFinite hmem hx s
      · refine absurd ⟨hwf, fun b hb => ?_, fun x hx hbad => hsample ⟨x, hx, hbad⟩⟩ hlegal
        exact not_not.1 fun hbad => hllrs ⟨b, hb, hbad⟩
    rw [← Host.Outcome.next.inj (hfault.symm.trans hexec)]
    exact inv_takeFault h _ _

/-! ### Every step -/

theorem inv_runCommand {t : State} (hstep : runCommand m17core exec s = .next t) : t.Inv := by
  rcases runCommand_cases m17core exec s with ⟨i, n, hdecode, hrun⟩ | ⟨c, w, -, hrun⟩ | ⟨-, hrun⟩ <;> rw [hrun] at hstep
  · exact inv_exec (inv_consume h n) (wellFormed_of_decode hdecode) hstep
  · rw [← Host.Outcome.next.inj hstep]
    exact inv_takeFault (inv_consume h 1) c w
  · exact inv_resetOr (fun hwait => Host.Outcome.next.inj hwait ▸ h) hstep

end

/-- Settles O14: a step halts, resets (`inv_reset`) or runs one command (`inv_runCommand`). -/
theorem stepKeepsInvariant : Obligations.StepKeepsInvariant := by
  intro s t h hstep
  rcases step_cases s with ⟨-, heq⟩ | ⟨-, k, rest, -, heq⟩ | ⟨-, -, heq⟩ <;> rw [heq] at hstep
  · exact inv_resetOr (otherwise := .fault .halted) nofun hstep
  · rcases runInterrupted_cases k { s with input := rest } with ⟨new, hrun⟩ | ⟨u, -, hrun⟩ <;>
      rw [← Host.Outcome.next.inj (hrun.symm.trans hstep)] <;>
      exact inv_reset _ _ _
  · exact inv_runCommand h hstep

end Sys2Proof.Machine
